-- ==== Sys2Proof/Word.lean ====
section
/-! DEFINITION. The two word types of the core: bytes and 16-bit addresses (spec 00_scope.md R9, R11). -/

namespace Sys2Proof

/-- A data byte: every register but PC, and every memory cell, holds one (R9). -/
abbrev Byte := BitVec 8

/-- A 16-bit bus address; PC is one (R9, R27). -/
abbrev Addr := BitVec 16

end Sys2Proof
end

