-- ==== Sys2Proof/Config.lean ====
section
/-! DEFINITION. What a launch fixes: the named parameters of 00_scope.md R10 with their default values, the legal PRG sizes, and
the byte an unlisted memory cell reads as. -/

namespace Sys2Proof

/-- `BRK_POLICY` (R10, decision D1): what opcode 0x00 does. -/
inductive BrkPolicy
  | halt
  | trap
  deriving DecidableEq, Repr

/-- The two legal lengths of a PRG image (20_memory.md R66, decision D10): no bus exists for another length. -/
inductive PrgSize
  | kib16
  | kib32
  deriving DecidableEq, Repr

/-- The number of bytes of a PRG image of this size (R66). -/
def PrgSize.bytes : PrgSize → Nat
  | .kib16 => 16384
  | .kib32 => 32768

/-- The named parameters of R10 that are values of the launch. Every claim quantifies over them: the state carries them as plain
data that no step writes. -/
structure Params where
  /-- `SP_RESET`: the stack pointer's top-of-stack default (decision D5). -/
  spReset : Byte
  /-- `RESET_CYCLES`: the cycle counter after reset (decision D7). -/
  resetCycles : Nat
  /-- `BRK_POLICY` (decision D1). -/
  brkPolicy : BrkPolicy
  /-- `ADMIT_UNOFFICIAL`: whether tier-2 opcodes execute (decision D3). -/
  admitUnofficial : Bool
  deriving DecidableEq, Repr

/-- The default values of R10. -/
def Params.default : Params :=
  { spReset := 0xFD, resetCycles := 0, brkPolicy := .halt, admitUnofficial := true }

/-- The number of physical RAM bytes (R9, 20_memory.md R63). -/
def Config.ramBytes : Nat := 2048

/-- What a memory cell that no list entry names reads as. DESIGN CHOICE (unsafe): the spec leaves RAM_INIT and the image open;
see notes/assumptions/2.md and notes/assumptions/3.md. -/
def Config.unlistedByte : Byte := 0x00

end Sys2Proof
end

