-- ==== Sys2Proof/Syntax.lean ====
section
/-! DEFINITION. The instruction set as syntax: the mnemonics and addressing modes of the opcode table (30_encoding.md R97, R120),
the operand forms, and Instr. One constructor of Instr is one mnemonic with ALL its rows of spec/opcode_table.json: the type of its
operand lists exactly the addressing modes the table gives it, so that every row is one constructor form and no form is
without a row. NOP and SBC have two constructors each, since 46_unofficial.md gives their unofficial rows by rules of their own.
Where the table gives one shape several opcode bytes (JAM, ANC, the unofficial NOPs), the form carries the byte: IllegalOpcode
reports it and the encoder needs it; WellFormed says which bytes are legal. DESIGN CHOICE, safe, notes/assumptions/9.md. -/

namespace Sys2Proof

/-- The mnemonics of the opcode table (R113, R120). -/
inductive Mnemonic
  | lda | ldx | ldy | sta | stx | sty | tax | tay
  | txa | tya | tsx | txs | pha | php | pla | plp
  | adc | sbc | cmp | cpx | cpy | and | ora | eor
  | bit | inc | dec | inx | iny | dex | dey | asl
  | lsr | rol | ror | jmp | jsr | rts | rti | bpl
  | bmi | bvc | bvs | bcc | bcs | bne | beq | brk
  | clc | sec | cli | sei | cld | sed | clv | nop
  | lax | sax | slo | rla | sre | rra | dcp | isb
  | anc | alr | arr | sbx | jam | ane | lxa | sha
  | shx | shy | tas | las
  deriving DecidableEq, Repr

/-- The thirteen addressing modes (R97). -/
inductive Mode
  | implied | accumulator | immediate | zeroPage | zeroPageX | zeroPageY | absolute | absoluteX | absoluteY
  | indirect | indexedIndirect | indirectIndexed | relative
  deriving DecidableEq, Repr

/-- The eight modes whose effective address designates a memory cell that an instruction reads or writes (R101 to R107), with
their operand bytes. -/
inductive MemMode
  | zp (z : Byte)
  | zpX (z : Byte)
  | zpY (z : Byte)
  | abs (w : Addr)
  | absX (w : Addr)
  | absY (w : Addr)
  | indX (z : Byte)
  | indY (z : Byte)
  deriving DecidableEq, Repr

/-- An operand that an instruction reads: the immediate byte or a memory cell (R100, R111). -/
inductive ReadOperand
  | imm (b : Byte)
  | mem (m : MemMode)
  deriving DecidableEq, Repr

/-- The eight forms of LDA, ADC, SBC, CMP, AND, ORA and EOR. -/
inductive AluOperand
  | imm (b : Byte) | zp (z : Byte) | zpX (z : Byte) | abs (w : Addr) | absX (w : Addr) | absY (w : Addr) | indX (z : Byte) | indY (z : Byte)
  deriving DecidableEq, Repr

/-- The seven memory forms of STA and of SLO, RLA, SRE, RRA, DCP and ISB. -/
inductive Mem7Operand
  | zp (z : Byte) | zpX (z : Byte) | abs (w : Addr) | absX (w : Addr) | absY (w : Addr) | indX (z : Byte) | indY (z : Byte)
  deriving DecidableEq, Repr

/-- The four memory forms of INC and DEC. -/
inductive Mem4Operand
  | zp (z : Byte) | zpX (z : Byte) | abs (w : Addr) | absX (w : Addr)
  deriving DecidableEq, Repr

/-- The forms of ASL, LSR, ROL and ROR: the accumulator (R99) and four memory forms. -/
inductive ShiftOperand
  | acc | zp (z : Byte) | zpX (z : Byte) | abs (w : Addr) | absX (w : Addr)
  deriving DecidableEq, Repr

/-- The forms of LDX. -/
inductive LdxOperand
  | imm (b : Byte) | zp (z : Byte) | zpY (z : Byte) | abs (w : Addr) | absY (w : Addr)
  deriving DecidableEq, Repr

/-- The forms of LDY. -/
inductive LdyOperand
  | imm (b : Byte) | zp (z : Byte) | zpX (z : Byte) | abs (w : Addr) | absX (w : Addr)
  deriving DecidableEq, Repr

/-- The forms of STX. -/
inductive StxOperand
  | zp (z : Byte) | zpY (z : Byte) | abs (w : Addr)
  deriving DecidableEq, Repr

/-- The forms of STY. -/
inductive StyOperand
  | zp (z : Byte) | zpX (z : Byte) | abs (w : Addr)
  deriving DecidableEq, Repr

/-- The forms of CPX and CPY. -/
inductive CpOperand
  | imm (b : Byte) | zp (z : Byte) | abs (w : Addr)
  deriving DecidableEq, Repr

/-- The forms of BIT. -/
inductive BitOperand
  | zp (z : Byte) | abs (w : Addr)
  deriving DecidableEq, Repr

/-- The forms of JMP: Absolute (R104) and Indirect (R108). -/
inductive JmpOperand
  | abs (w : Addr) | ind (w : Addr)
  deriving DecidableEq, Repr

/-- The forms of LAX. -/
inductive LaxOperand
  | zp (z : Byte) | zpY (z : Byte) | abs (w : Addr) | absY (w : Addr) | indX (z : Byte) | indY (z : Byte)
  deriving DecidableEq, Repr

/-- The forms of SAX. -/
inductive SaxOperand
  | zp (z : Byte) | zpY (z : Byte) | abs (w : Addr) | indX (z : Byte)
  deriving DecidableEq, Repr

/-- The forms of the unofficial NOPs. -/
inductive NopOperand
  | imp | imm (b : Byte) | zp (z : Byte) | zpX (z : Byte) | abs (w : Addr) | absX (w : Addr)
  deriving DecidableEq, Repr

/-- The forms of SHA. -/
inductive ShaOperand
  | absY (w : Addr) | indY (z : Byte)
  deriving DecidableEq, Repr

/-- An instruction with its operand (30_encoding.md R91, R94, R116). The docstrings name the rule of each meaning. -/
inductive Instr
  /-- LDA, R131. -/
  | lda (o : AluOperand)
  /-- LDX, R132. -/
  | ldx (o : LdxOperand)
  /-- LDY, R133. -/
  | ldy (o : LdyOperand)
  /-- STA, R134. -/
  | sta (o : Mem7Operand)
  /-- STX, R135. -/
  | stx (o : StxOperand)
  /-- STY, R136. -/
  | sty (o : StyOperand)
  /-- TAX, R137. -/
  | tax
  /-- TAY, R138. -/
  | tay
  /-- TXA, R139. -/
  | txa
  /-- TYA, R140. -/
  | tya
  /-- TSX, R141. -/
  | tsx
  /-- TXS, R142. -/
  | txs
  /-- PHA, R143. -/
  | pha
  /-- PHP, R144. -/
  | php
  /-- PLA, R145. -/
  | pla
  /-- PLP, R146. -/
  | plp
  /-- ADC, R150. -/
  | adc (o : AluOperand)
  /-- SBC, official opcodes, R151. -/
  | sbc (o : AluOperand)
  /-- CMP, R153. -/
  | cmp (o : AluOperand)
  /-- CPX, R154. -/
  | cpx (o : CpOperand)
  /-- CPY, R155. -/
  | cpy (o : CpOperand)
  /-- AND, R156. -/
  | and (o : AluOperand)
  /-- ORA, R157. -/
  | ora (o : AluOperand)
  /-- EOR, R158. -/
  | eor (o : AluOperand)
  /-- BIT, R159. -/
  | bit (o : BitOperand)
  /-- INC, R160. -/
  | inc (o : Mem4Operand)
  /-- DEC, R161. -/
  | dec (o : Mem4Operand)
  /-- INX, R162. -/
  | inx
  /-- INY, R163. -/
  | iny
  /-- DEX, R164. -/
  | dex
  /-- DEY, R165. -/
  | dey
  /-- ASL, R167. -/
  | asl (o : ShiftOperand)
  /-- LSR, R168. -/
  | lsr (o : ShiftOperand)
  /-- ROL, R169. -/
  | rol (o : ShiftOperand)
  /-- ROR, R170. -/
  | ror (o : ShiftOperand)
  /-- JMP, R171. -/
  | jmp (o : JmpOperand)
  /-- JSR, R172. -/
  | jsr (w : Addr)
  /-- RTS, R173. -/
  | rts
  /-- RTI, R174. -/
  | rti
  /-- BPL, R177. -/
  | bpl (r : Byte)
  /-- BMI, R178. -/
  | bmi (r : Byte)
  /-- BVC, R179. -/
  | bvc (r : Byte)
  /-- BVS, R180. -/
  | bvs (r : Byte)
  /-- BCC, R181. -/
  | bcc (r : Byte)
  /-- BCS, R182. -/
  | bcs (r : Byte)
  /-- BNE, R183. -/
  | bne (r : Byte)
  /-- BEQ, R184. -/
  | beq (r : Byte)
  /-- BRK, R185. -/
  | brk
  /-- CLC, R188. -/
  | clc
  /-- SEC, R189. -/
  | sec
  /-- CLI, R190. -/
  | cli
  /-- SEI, R191. -/
  | sei
  /-- CLD, R192. -/
  | cld
  /-- SED, R193. -/
  | sed
  /-- CLV, R194. -/
  | clv
  /-- NOP, official opcode, R195. -/
  | nop
  /-- NOP, unofficial forms, with the opcode byte, R197. -/
  | nopUnofficial (op : Byte) (o : NopOperand)
  /-- LAX, R198. -/
  | lax (o : LaxOperand)
  /-- SAX, R199. -/
  | sax (o : SaxOperand)
  /-- SBC, unofficial opcode 0xEB, R200. -/
  | sbcUnofficial (b : Byte)
  /-- SLO, R201. -/
  | slo (o : Mem7Operand)
  /-- RLA, R202. -/
  | rla (o : Mem7Operand)
  /-- SRE, R203. -/
  | sre (o : Mem7Operand)
  /-- RRA, R204. -/
  | rra (o : Mem7Operand)
  /-- DCP, R205. -/
  | dcp (o : Mem7Operand)
  /-- ISB, R206. -/
  | isb (o : Mem7Operand)
  /-- ANC, with the opcode byte, R207. -/
  | anc (op : Byte) (b : Byte)
  /-- ALR, R208. -/
  | alr (b : Byte)
  /-- ARR, R209. -/
  | arr (b : Byte)
  /-- SBX, R210. -/
  | sbx (b : Byte)
  /-- JAM, tier 3, with the opcode byte, R113, R301. -/
  | jam (op : Byte)
  /-- ANE, tier 3; the operand is for a disassembler only, R113, R301. -/
  | ane (b : Byte)
  /-- LXA, tier 3, R113, R301. -/
  | lxa (b : Byte)
  /-- SHA, tier 3, R113, R301. -/
  | sha (o : ShaOperand)
  /-- SHX, tier 3, R113, R301. -/
  | shx (w : Addr)
  /-- SHY, tier 3, R113, R301. -/
  | shy (w : Addr)
  /-- TAS, tier 3, R113, R301. -/
  | tas (w : Addr)
  /-- LAS, tier 3, R113, R301. -/
  | las (w : Addr)
  deriving DecidableEq, Repr

end Sys2Proof
end

