-- ==== Sys2Proof/WellFormed.lean ====
section
/-! DEFINITION. Which terms of Instr the opcode table has: every operand form is in range by its type, so only the carried opcode
bytes need a check (30_encoding.md R113, R114). Decoding answers well-formed instructions only. -/

namespace Sys2Proof

/-- The twelve JAM opcodes (R113). -/
def jamOpcodes : List Byte := [0x02, 0x12, 0x22, 0x32, 0x42, 0x52, 0x62, 0x72, 0x92, 0xB2, 0xD2, 0xF2]

/-- The two ANC opcodes (R114). -/
def ancOpcodes : List Byte := [0x0B, 0x2B]

/-- The opcodes of each form of the unofficial NOP (R114). -/
def nopOpcodes : NopOperand → List Byte
  | .imp => [0x1A, 0x3A, 0x5A, 0x7A, 0xDA, 0xFA]
  | .imm _ => [0x80, 0x82, 0x89, 0xC2, 0xE2]
  | .zp _ => [0x04, 0x44, 0x64]
  | .zpX _ => [0x14, 0x34, 0x54, 0x74, 0xD4, 0xF4]
  | .abs _ => [0x0C]
  | .absX _ => [0x1C, 0x3C, 0x5C, 0x7C, 0xDC, 0xFC]

/-- The instruction is one the opcode table has. -/
def Instr.wellFormed : Instr → Bool
  | .nopUnofficial op o => (nopOpcodes o).contains op
  | .anc op _ => ancOpcodes.contains op
  | .jam op => jamOpcodes.contains op
  | .lda _ | .ldx _ | .ldy _ | .sta _ | .stx _ | .sty _ | .tax | .tay | .txa | .tya | .tsx | .txs => true
  | .pha | .php | .pla | .plp => true
  | .adc _ | .sbc _ | .cmp _ | .cpx _ | .cpy _ | .and _ | .ora _ | .eor _ | .bit _ | .inc _ | .dec _ => true
  | .inx | .iny | .dex | .dey | .asl _ | .lsr _ | .rol _ | .ror _ => true
  | .jmp _ | .jsr _ | .rts | .rti | .bpl _ | .bmi _ | .bvc _ | .bvs _ | .bcc _ | .bcs _ | .bne _ | .beq _ | .brk => true
  | .clc | .sec | .cli | .sei | .cld | .sed | .clv | .nop => true
  | .lax _ | .sax _ | .sbcUnofficial _ | .slo _ | .rla _ | .sre _ | .rra _ | .dcp _ | .isb _ => true
  | .alr _ | .arr _ | .sbx _ | .ane _ | .lxa _ | .sha _ | .shx _ | .shy _ | .tas _ | .las _ => true

end Sys2Proof
end

