-- ==== Sys2Proof/Decode.lean ====
section
/-! DEFINITION. The opcode table (30_encoding.md R95, R96, R116), the decoder, total on any opcode byte (R92, R122, R123), and the
encoder (R91, R94, R115). The three are written as three lists or matches of their own,
and the statements hold them against each other. -/

namespace Sys2Proof

/-! ## The opcode table -/

/-- The three tiers of R112. -/
inductive Tier
  | official
  | unofficial
  | unimplemented
  deriving DecidableEq, Repr

/-- An opcode-table entry (R95): mnemonic, mode, length, base cycles (none for tier 3, which never completes), the page-cross
flag and the tier. -/
structure Entry where
  mnemonic : Mnemonic
  mode : Mode
  length : Nat
  cycles : Option Nat
  pageCross : Bool
  tier : Tier
  deriving DecidableEq, Repr

/-- Rows 0x00 to 0x0F of R116. -/
def opRow0 : List Entry := [
  ⟨.brk, .implied, 1, some 7, false, .official⟩,
  ⟨.ora, .indexedIndirect, 2, some 6, false, .official⟩,
  ⟨.jam, .implied, 1, none, false, .unimplemented⟩,
  ⟨.slo, .indexedIndirect, 2, some 8, false, .unofficial⟩,
  ⟨.nop, .zeroPage, 2, some 3, false, .unofficial⟩,
  ⟨.ora, .zeroPage, 2, some 3, false, .official⟩,
  ⟨.asl, .zeroPage, 2, some 5, false, .official⟩,
  ⟨.slo, .zeroPage, 2, some 5, false, .unofficial⟩,
  ⟨.php, .implied, 1, some 3, false, .official⟩,
  ⟨.ora, .immediate, 2, some 2, false, .official⟩,
  ⟨.asl, .accumulator, 1, some 2, false, .official⟩,
  ⟨.anc, .immediate, 2, some 2, false, .unofficial⟩,
  ⟨.nop, .absolute, 3, some 4, false, .unofficial⟩,
  ⟨.ora, .absolute, 3, some 4, false, .official⟩,
  ⟨.asl, .absolute, 3, some 6, false, .official⟩,
  ⟨.slo, .absolute, 3, some 6, false, .unofficial⟩ ]

/-- Rows 0x10 to 0x1F of R116. -/
def opRow1 : List Entry := [
  ⟨.bpl, .relative, 2, some 2, false, .official⟩,
  ⟨.ora, .indirectIndexed, 2, some 5, true, .official⟩,
  ⟨.jam, .implied, 1, none, false, .unimplemented⟩,
  ⟨.slo, .indirectIndexed, 2, some 8, false, .unofficial⟩,
  ⟨.nop, .zeroPageX, 2, some 4, false, .unofficial⟩,
  ⟨.ora, .zeroPageX, 2, some 4, false, .official⟩,
  ⟨.asl, .zeroPageX, 2, some 6, false, .official⟩,
  ⟨.slo, .zeroPageX, 2, some 6, false, .unofficial⟩,
  ⟨.clc, .implied, 1, some 2, false, .official⟩,
  ⟨.ora, .absoluteY, 3, some 4, true, .official⟩,
  ⟨.nop, .implied, 1, some 2, false, .unofficial⟩,
  ⟨.slo, .absoluteY, 3, some 7, false, .unofficial⟩,
  ⟨.nop, .absoluteX, 3, some 4, true, .unofficial⟩,
  ⟨.ora, .absoluteX, 3, some 4, true, .official⟩,
  ⟨.asl, .absoluteX, 3, some 7, false, .official⟩,
  ⟨.slo, .absoluteX, 3, some 7, false, .unofficial⟩ ]

/-- Rows 0x20 to 0x2F of R116. -/
def opRow2 : List Entry := [
  ⟨.jsr, .absolute, 3, some 6, false, .official⟩,
  ⟨.and, .indexedIndirect, 2, some 6, false, .official⟩,
  ⟨.jam, .implied, 1, none, false, .unimplemented⟩,
  ⟨.rla, .indexedIndirect, 2, some 8, false, .unofficial⟩,
  ⟨.bit, .zeroPage, 2, some 3, false, .official⟩,
  ⟨.and, .zeroPage, 2, some 3, false, .official⟩,
  ⟨.rol, .zeroPage, 2, some 5, false, .official⟩,
  ⟨.rla, .zeroPage, 2, some 5, false, .unofficial⟩,
  ⟨.plp, .implied, 1, some 4, false, .official⟩,
  ⟨.and, .immediate, 2, some 2, false, .official⟩,
  ⟨.rol, .accumulator, 1, some 2, false, .official⟩,
  ⟨.anc, .immediate, 2, some 2, false, .unofficial⟩,
  ⟨.bit, .absolute, 3, some 4, false, .official⟩,
  ⟨.and, .absolute, 3, some 4, false, .official⟩,
  ⟨.rol, .absolute, 3, some 6, false, .official⟩,
  ⟨.rla, .absolute, 3, some 6, false, .unofficial⟩ ]

/-- Rows 0x30 to 0x3F of R116. -/
def opRow3 : List Entry := [
  ⟨.bmi, .relative, 2, some 2, false, .official⟩,
  ⟨.and, .indirectIndexed, 2, some 5, true, .official⟩,
  ⟨.jam, .implied, 1, none, false, .unimplemented⟩,
  ⟨.rla, .indirectIndexed, 2, some 8, false, .unofficial⟩,
  ⟨.nop, .zeroPageX, 2, some 4, false, .unofficial⟩,
  ⟨.and, .zeroPageX, 2, some 4, false, .official⟩,
  ⟨.rol, .zeroPageX, 2, some 6, false, .official⟩,
  ⟨.rla, .zeroPageX, 2, some 6, false, .unofficial⟩,
  ⟨.sec, .implied, 1, some 2, false, .official⟩,
  ⟨.and, .absoluteY, 3, some 4, true, .official⟩,
  ⟨.nop, .implied, 1, some 2, false, .unofficial⟩,
  ⟨.rla, .absoluteY, 3, some 7, false, .unofficial⟩,
  ⟨.nop, .absoluteX, 3, some 4, true, .unofficial⟩,
  ⟨.and, .absoluteX, 3, some 4, true, .official⟩,
  ⟨.rol, .absoluteX, 3, some 7, false, .official⟩,
  ⟨.rla, .absoluteX, 3, some 7, false, .unofficial⟩ ]

/-- Rows 0x40 to 0x4F of R116. -/
def opRow4 : List Entry := [
  ⟨.rti, .implied, 1, some 6, false, .official⟩,
  ⟨.eor, .indexedIndirect, 2, some 6, false, .official⟩,
  ⟨.jam, .implied, 1, none, false, .unimplemented⟩,
  ⟨.sre, .indexedIndirect, 2, some 8, false, .unofficial⟩,
  ⟨.nop, .zeroPage, 2, some 3, false, .unofficial⟩,
  ⟨.eor, .zeroPage, 2, some 3, false, .official⟩,
  ⟨.lsr, .zeroPage, 2, some 5, false, .official⟩,
  ⟨.sre, .zeroPage, 2, some 5, false, .unofficial⟩,
  ⟨.pha, .implied, 1, some 3, false, .official⟩,
  ⟨.eor, .immediate, 2, some 2, false, .official⟩,
  ⟨.lsr, .accumulator, 1, some 2, false, .official⟩,
  ⟨.alr, .immediate, 2, some 2, false, .unofficial⟩,
  ⟨.jmp, .absolute, 3, some 3, false, .official⟩,
  ⟨.eor, .absolute, 3, some 4, false, .official⟩,
  ⟨.lsr, .absolute, 3, some 6, false, .official⟩,
  ⟨.sre, .absolute, 3, some 6, false, .unofficial⟩ ]

/-- Rows 0x50 to 0x5F of R116. -/
def opRow5 : List Entry := [
  ⟨.bvc, .relative, 2, some 2, false, .official⟩,
  ⟨.eor, .indirectIndexed, 2, some 5, true, .official⟩,
  ⟨.jam, .implied, 1, none, false, .unimplemented⟩,
  ⟨.sre, .indirectIndexed, 2, some 8, false, .unofficial⟩,
  ⟨.nop, .zeroPageX, 2, some 4, false, .unofficial⟩,
  ⟨.eor, .zeroPageX, 2, some 4, false, .official⟩,
  ⟨.lsr, .zeroPageX, 2, some 6, false, .official⟩,
  ⟨.sre, .zeroPageX, 2, some 6, false, .unofficial⟩,
  ⟨.cli, .implied, 1, some 2, false, .official⟩,
  ⟨.eor, .absoluteY, 3, some 4, true, .official⟩,
  ⟨.nop, .implied, 1, some 2, false, .unofficial⟩,
  ⟨.sre, .absoluteY, 3, some 7, false, .unofficial⟩,
  ⟨.nop, .absoluteX, 3, some 4, true, .unofficial⟩,
  ⟨.eor, .absoluteX, 3, some 4, true, .official⟩,
  ⟨.lsr, .absoluteX, 3, some 7, false, .official⟩,
  ⟨.sre, .absoluteX, 3, some 7, false, .unofficial⟩ ]

/-- Rows 0x60 to 0x6F of R116. -/
def opRow6 : List Entry := [
  ⟨.rts, .implied, 1, some 6, false, .official⟩,
  ⟨.adc, .indexedIndirect, 2, some 6, false, .official⟩,
  ⟨.jam, .implied, 1, none, false, .unimplemented⟩,
  ⟨.rra, .indexedIndirect, 2, some 8, false, .unofficial⟩,
  ⟨.nop, .zeroPage, 2, some 3, false, .unofficial⟩,
  ⟨.adc, .zeroPage, 2, some 3, false, .official⟩,
  ⟨.ror, .zeroPage, 2, some 5, false, .official⟩,
  ⟨.rra, .zeroPage, 2, some 5, false, .unofficial⟩,
  ⟨.pla, .implied, 1, some 4, false, .official⟩,
  ⟨.adc, .immediate, 2, some 2, false, .official⟩,
  ⟨.ror, .accumulator, 1, some 2, false, .official⟩,
  ⟨.arr, .immediate, 2, some 2, false, .unofficial⟩,
  ⟨.jmp, .indirect, 3, some 5, false, .official⟩,
  ⟨.adc, .absolute, 3, some 4, false, .official⟩,
  ⟨.ror, .absolute, 3, some 6, false, .official⟩,
  ⟨.rra, .absolute, 3, some 6, false, .unofficial⟩ ]

/-- Rows 0x70 to 0x7F of R116. -/
def opRow7 : List Entry := [
  ⟨.bvs, .relative, 2, some 2, false, .official⟩,
  ⟨.adc, .indirectIndexed, 2, some 5, true, .official⟩,
  ⟨.jam, .implied, 1, none, false, .unimplemented⟩,
  ⟨.rra, .indirectIndexed, 2, some 8, false, .unofficial⟩,
  ⟨.nop, .zeroPageX, 2, some 4, false, .unofficial⟩,
  ⟨.adc, .zeroPageX, 2, some 4, false, .official⟩,
  ⟨.ror, .zeroPageX, 2, some 6, false, .official⟩,
  ⟨.rra, .zeroPageX, 2, some 6, false, .unofficial⟩,
  ⟨.sei, .implied, 1, some 2, false, .official⟩,
  ⟨.adc, .absoluteY, 3, some 4, true, .official⟩,
  ⟨.nop, .implied, 1, some 2, false, .unofficial⟩,
  ⟨.rra, .absoluteY, 3, some 7, false, .unofficial⟩,
  ⟨.nop, .absoluteX, 3, some 4, true, .unofficial⟩,
  ⟨.adc, .absoluteX, 3, some 4, true, .official⟩,
  ⟨.ror, .absoluteX, 3, some 7, false, .official⟩,
  ⟨.rra, .absoluteX, 3, some 7, false, .unofficial⟩ ]

/-- Rows 0x80 to 0x8F of R116. -/
def opRow8 : List Entry := [
  ⟨.nop, .immediate, 2, some 2, false, .unofficial⟩,
  ⟨.sta, .indexedIndirect, 2, some 6, false, .official⟩,
  ⟨.nop, .immediate, 2, some 2, false, .unofficial⟩,
  ⟨.sax, .indexedIndirect, 2, some 6, false, .unofficial⟩,
  ⟨.sty, .zeroPage, 2, some 3, false, .official⟩,
  ⟨.sta, .zeroPage, 2, some 3, false, .official⟩,
  ⟨.stx, .zeroPage, 2, some 3, false, .official⟩,
  ⟨.sax, .zeroPage, 2, some 3, false, .unofficial⟩,
  ⟨.dey, .implied, 1, some 2, false, .official⟩,
  ⟨.nop, .immediate, 2, some 2, false, .unofficial⟩,
  ⟨.txa, .implied, 1, some 2, false, .official⟩,
  ⟨.ane, .immediate, 2, none, false, .unimplemented⟩,
  ⟨.sty, .absolute, 3, some 4, false, .official⟩,
  ⟨.sta, .absolute, 3, some 4, false, .official⟩,
  ⟨.stx, .absolute, 3, some 4, false, .official⟩,
  ⟨.sax, .absolute, 3, some 4, false, .unofficial⟩ ]

/-- Rows 0x90 to 0x9F of R116. -/
def opRow9 : List Entry := [
  ⟨.bcc, .relative, 2, some 2, false, .official⟩,
  ⟨.sta, .indirectIndexed, 2, some 6, false, .official⟩,
  ⟨.jam, .implied, 1, none, false, .unimplemented⟩,
  ⟨.sha, .indirectIndexed, 2, none, false, .unimplemented⟩,
  ⟨.sty, .zeroPageX, 2, some 4, false, .official⟩,
  ⟨.sta, .zeroPageX, 2, some 4, false, .official⟩,
  ⟨.stx, .zeroPageY, 2, some 4, false, .official⟩,
  ⟨.sax, .zeroPageY, 2, some 4, false, .unofficial⟩,
  ⟨.tya, .implied, 1, some 2, false, .official⟩,
  ⟨.sta, .absoluteY, 3, some 5, false, .official⟩,
  ⟨.txs, .implied, 1, some 2, false, .official⟩,
  ⟨.tas, .absoluteY, 3, none, false, .unimplemented⟩,
  ⟨.shy, .absoluteX, 3, none, false, .unimplemented⟩,
  ⟨.sta, .absoluteX, 3, some 5, false, .official⟩,
  ⟨.shx, .absoluteY, 3, none, false, .unimplemented⟩,
  ⟨.sha, .absoluteY, 3, none, false, .unimplemented⟩ ]

/-- Rows 0xA0 to 0xAF of R116. -/
def opRowA : List Entry := [
  ⟨.ldy, .immediate, 2, some 2, false, .official⟩,
  ⟨.lda, .indexedIndirect, 2, some 6, false, .official⟩,
  ⟨.ldx, .immediate, 2, some 2, false, .official⟩,
  ⟨.lax, .indexedIndirect, 2, some 6, false, .unofficial⟩,
  ⟨.ldy, .zeroPage, 2, some 3, false, .official⟩,
  ⟨.lda, .zeroPage, 2, some 3, false, .official⟩,
  ⟨.ldx, .zeroPage, 2, some 3, false, .official⟩,
  ⟨.lax, .zeroPage, 2, some 3, false, .unofficial⟩,
  ⟨.tay, .implied, 1, some 2, false, .official⟩,
  ⟨.lda, .immediate, 2, some 2, false, .official⟩,
  ⟨.tax, .implied, 1, some 2, false, .official⟩,
  ⟨.lxa, .immediate, 2, none, false, .unimplemented⟩,
  ⟨.ldy, .absolute, 3, some 4, false, .official⟩,
  ⟨.lda, .absolute, 3, some 4, false, .official⟩,
  ⟨.ldx, .absolute, 3, some 4, false, .official⟩,
  ⟨.lax, .absolute, 3, some 4, false, .unofficial⟩ ]

/-- Rows 0xB0 to 0xBF of R116. -/
def opRowB : List Entry := [
  ⟨.bcs, .relative, 2, some 2, false, .official⟩,
  ⟨.lda, .indirectIndexed, 2, some 5, true, .official⟩,
  ⟨.jam, .implied, 1, none, false, .unimplemented⟩,
  ⟨.lax, .indirectIndexed, 2, some 5, true, .unofficial⟩,
  ⟨.ldy, .zeroPageX, 2, some 4, false, .official⟩,
  ⟨.lda, .zeroPageX, 2, some 4, false, .official⟩,
  ⟨.ldx, .zeroPageY, 2, some 4, false, .official⟩,
  ⟨.lax, .zeroPageY, 2, some 4, false, .unofficial⟩,
  ⟨.clv, .implied, 1, some 2, false, .official⟩,
  ⟨.lda, .absoluteY, 3, some 4, true, .official⟩,
  ⟨.tsx, .implied, 1, some 2, false, .official⟩,
  ⟨.las, .absoluteY, 3, none, false, .unimplemented⟩,
  ⟨.ldy, .absoluteX, 3, some 4, true, .official⟩,
  ⟨.lda, .absoluteX, 3, some 4, true, .official⟩,
  ⟨.ldx, .absoluteY, 3, some 4, true, .official⟩,
  ⟨.lax, .absoluteY, 3, some 4, true, .unofficial⟩ ]

/-- Rows 0xC0 to 0xCF of R116. -/
def opRowC : List Entry := [
  ⟨.cpy, .immediate, 2, some 2, false, .official⟩,
  ⟨.cmp, .indexedIndirect, 2, some 6, false, .official⟩,
  ⟨.nop, .immediate, 2, some 2, false, .unofficial⟩,
  ⟨.dcp, .indexedIndirect, 2, some 8, false, .unofficial⟩,
  ⟨.cpy, .zeroPage, 2, some 3, false, .official⟩,
  ⟨.cmp, .zeroPage, 2, some 3, false, .official⟩,
  ⟨.dec, .zeroPage, 2, some 5, false, .official⟩,
  ⟨.dcp, .zeroPage, 2, some 5, false, .unofficial⟩,
  ⟨.iny, .implied, 1, some 2, false, .official⟩,
  ⟨.cmp, .immediate, 2, some 2, false, .official⟩,
  ⟨.dex, .implied, 1, some 2, false, .official⟩,
  ⟨.sbx, .immediate, 2, some 2, false, .unofficial⟩,
  ⟨.cpy, .absolute, 3, some 4, false, .official⟩,
  ⟨.cmp, .absolute, 3, some 4, false, .official⟩,
  ⟨.dec, .absolute, 3, some 6, false, .official⟩,
  ⟨.dcp, .absolute, 3, some 6, false, .unofficial⟩ ]

/-- Rows 0xD0 to 0xDF of R116. -/
def opRowD : List Entry := [
  ⟨.bne, .relative, 2, some 2, false, .official⟩,
  ⟨.cmp, .indirectIndexed, 2, some 5, true, .official⟩,
  ⟨.jam, .implied, 1, none, false, .unimplemented⟩,
  ⟨.dcp, .indirectIndexed, 2, some 8, false, .unofficial⟩,
  ⟨.nop, .zeroPageX, 2, some 4, false, .unofficial⟩,
  ⟨.cmp, .zeroPageX, 2, some 4, false, .official⟩,
  ⟨.dec, .zeroPageX, 2, some 6, false, .official⟩,
  ⟨.dcp, .zeroPageX, 2, some 6, false, .unofficial⟩,
  ⟨.cld, .implied, 1, some 2, false, .official⟩,
  ⟨.cmp, .absoluteY, 3, some 4, true, .official⟩,
  ⟨.nop, .implied, 1, some 2, false, .unofficial⟩,
  ⟨.dcp, .absoluteY, 3, some 7, false, .unofficial⟩,
  ⟨.nop, .absoluteX, 3, some 4, true, .unofficial⟩,
  ⟨.cmp, .absoluteX, 3, some 4, true, .official⟩,
  ⟨.dec, .absoluteX, 3, some 7, false, .official⟩,
  ⟨.dcp, .absoluteX, 3, some 7, false, .unofficial⟩ ]

/-- Rows 0xE0 to 0xEF of R116. -/
def opRowE : List Entry := [
  ⟨.cpx, .immediate, 2, some 2, false, .official⟩,
  ⟨.sbc, .indexedIndirect, 2, some 6, false, .official⟩,
  ⟨.nop, .immediate, 2, some 2, false, .unofficial⟩,
  ⟨.isb, .indexedIndirect, 2, some 8, false, .unofficial⟩,
  ⟨.cpx, .zeroPage, 2, some 3, false, .official⟩,
  ⟨.sbc, .zeroPage, 2, some 3, false, .official⟩,
  ⟨.inc, .zeroPage, 2, some 5, false, .official⟩,
  ⟨.isb, .zeroPage, 2, some 5, false, .unofficial⟩,
  ⟨.inx, .implied, 1, some 2, false, .official⟩,
  ⟨.sbc, .immediate, 2, some 2, false, .official⟩,
  ⟨.nop, .implied, 1, some 2, false, .official⟩,
  ⟨.sbc, .immediate, 2, some 2, false, .unofficial⟩,
  ⟨.cpx, .absolute, 3, some 4, false, .official⟩,
  ⟨.sbc, .absolute, 3, some 4, false, .official⟩,
  ⟨.inc, .absolute, 3, some 6, false, .official⟩,
  ⟨.isb, .absolute, 3, some 6, false, .unofficial⟩ ]

/-- Rows 0xF0 to 0xFF of R116. -/
def opRowF : List Entry := [
  ⟨.beq, .relative, 2, some 2, false, .official⟩,
  ⟨.sbc, .indirectIndexed, 2, some 5, true, .official⟩,
  ⟨.jam, .implied, 1, none, false, .unimplemented⟩,
  ⟨.isb, .indirectIndexed, 2, some 8, false, .unofficial⟩,
  ⟨.nop, .zeroPageX, 2, some 4, false, .unofficial⟩,
  ⟨.sbc, .zeroPageX, 2, some 4, false, .official⟩,
  ⟨.inc, .zeroPageX, 2, some 6, false, .official⟩,
  ⟨.isb, .zeroPageX, 2, some 6, false, .unofficial⟩,
  ⟨.sed, .implied, 1, some 2, false, .official⟩,
  ⟨.sbc, .absoluteY, 3, some 4, true, .official⟩,
  ⟨.nop, .implied, 1, some 2, false, .unofficial⟩,
  ⟨.isb, .absoluteY, 3, some 7, false, .unofficial⟩,
  ⟨.nop, .absoluteX, 3, some 4, true, .unofficial⟩,
  ⟨.sbc, .absoluteX, 3, some 4, true, .official⟩,
  ⟨.inc, .absoluteX, 3, some 7, false, .official⟩,
  ⟨.isb, .absoluteX, 3, some 7, false, .unofficial⟩ ]

/-- The 256 entries in opcode order (R96). -/
def opTable : List Entry :=
  opRow0 ++ opRow1 ++ opRow2 ++ opRow3 ++ opRow4 ++ opRow5 ++ opRow6 ++ opRow7 ++
  opRow8 ++ opRow9 ++ opRowA ++ opRowB ++ opRowC ++ opRowD ++ opRowE ++ opRowF

/-- The row a byte outside the table would have; the table is total (R96), so no byte has it. -/
def noEntry : Entry := ⟨.jam, .implied, 1, none, false, .unimplemented⟩

/-- `OpTable[op]` (R95). -/
def entry (op : Byte) : Entry := opTable.getD op.toNat noEntry

/-! ## Decoding -/

/-- The 16-bit value `(hi : lo)` (00_scope.md R11). -/
def word16 (hi lo : Byte) : Addr := hi ++ lo

/-- `hi8(w)` (R11). -/
def hi8 (w : Addr) : Byte := w.extractLsb' 8 8

/-- `lo8(w)` (R11). -/
def lo8 (w : Addr) : Byte := w.extractLsb' 0 8

/-- Row 0x of the opcode map R115: the instruction each opcode gives with operand bytes `a`, `b` (R91, R94). -/
def decodeRow0 : List (Byte → Byte → Instr) := [
  fun _ _ => .brk,
  fun a _ => .ora (.indX a),
  fun _ _ => .jam 0x02,
  fun a _ => .slo (.indX a),
  fun a _ => .nopUnofficial 0x04 (.zp a),
  fun a _ => .ora (.zp a),
  fun a _ => .asl (.zp a),
  fun a _ => .slo (.zp a),
  fun _ _ => .php,
  fun a _ => .ora (.imm a),
  fun _ _ => .asl .acc,
  fun a _ => .anc 0x0B a,
  fun a b => .nopUnofficial 0x0C (.abs (word16 b a)),
  fun a b => .ora (.abs (word16 b a)),
  fun a b => .asl (.abs (word16 b a)),
  fun a b => .slo (.abs (word16 b a)) ]

/-- Row 1x of the opcode map R115: the instruction each opcode gives with operand bytes `a`, `b` (R91, R94). -/
def decodeRow1 : List (Byte → Byte → Instr) := [
  fun a _ => .bpl a,
  fun a _ => .ora (.indY a),
  fun _ _ => .jam 0x12,
  fun a _ => .slo (.indY a),
  fun a _ => .nopUnofficial 0x14 (.zpX a),
  fun a _ => .ora (.zpX a),
  fun a _ => .asl (.zpX a),
  fun a _ => .slo (.zpX a),
  fun _ _ => .clc,
  fun a b => .ora (.absY (word16 b a)),
  fun _ _ => .nopUnofficial 0x1A .imp,
  fun a b => .slo (.absY (word16 b a)),
  fun a b => .nopUnofficial 0x1C (.absX (word16 b a)),
  fun a b => .ora (.absX (word16 b a)),
  fun a b => .asl (.absX (word16 b a)),
  fun a b => .slo (.absX (word16 b a)) ]

/-- Row 2x of the opcode map R115: the instruction each opcode gives with operand bytes `a`, `b` (R91, R94). -/
def decodeRow2 : List (Byte → Byte → Instr) := [
  fun a b => .jsr (word16 b a),
  fun a _ => .and (.indX a),
  fun _ _ => .jam 0x22,
  fun a _ => .rla (.indX a),
  fun a _ => .bit (.zp a),
  fun a _ => .and (.zp a),
  fun a _ => .rol (.zp a),
  fun a _ => .rla (.zp a),
  fun _ _ => .plp,
  fun a _ => .and (.imm a),
  fun _ _ => .rol .acc,
  fun a _ => .anc 0x2B a,
  fun a b => .bit (.abs (word16 b a)),
  fun a b => .and (.abs (word16 b a)),
  fun a b => .rol (.abs (word16 b a)),
  fun a b => .rla (.abs (word16 b a)) ]

/-- Row 3x of the opcode map R115: the instruction each opcode gives with operand bytes `a`, `b` (R91, R94). -/
def decodeRow3 : List (Byte → Byte → Instr) := [
  fun a _ => .bmi a,
  fun a _ => .and (.indY a),
  fun _ _ => .jam 0x32,
  fun a _ => .rla (.indY a),
  fun a _ => .nopUnofficial 0x34 (.zpX a),
  fun a _ => .and (.zpX a),
  fun a _ => .rol (.zpX a),
  fun a _ => .rla (.zpX a),
  fun _ _ => .sec,
  fun a b => .and (.absY (word16 b a)),
  fun _ _ => .nopUnofficial 0x3A .imp,
  fun a b => .rla (.absY (word16 b a)),
  fun a b => .nopUnofficial 0x3C (.absX (word16 b a)),
  fun a b => .and (.absX (word16 b a)),
  fun a b => .rol (.absX (word16 b a)),
  fun a b => .rla (.absX (word16 b a)) ]

/-- Row 4x of the opcode map R115: the instruction each opcode gives with operand bytes `a`, `b` (R91, R94). -/
def decodeRow4 : List (Byte → Byte → Instr) := [
  fun _ _ => .rti,
  fun a _ => .eor (.indX a),
  fun _ _ => .jam 0x42,
  fun a _ => .sre (.indX a),
  fun a _ => .nopUnofficial 0x44 (.zp a),
  fun a _ => .eor (.zp a),
  fun a _ => .lsr (.zp a),
  fun a _ => .sre (.zp a),
  fun _ _ => .pha,
  fun a _ => .eor (.imm a),
  fun _ _ => .lsr .acc,
  fun a _ => .alr a,
  fun a b => .jmp (.abs (word16 b a)),
  fun a b => .eor (.abs (word16 b a)),
  fun a b => .lsr (.abs (word16 b a)),
  fun a b => .sre (.abs (word16 b a)) ]

/-- Row 5x of the opcode map R115: the instruction each opcode gives with operand bytes `a`, `b` (R91, R94). -/
def decodeRow5 : List (Byte → Byte → Instr) := [
  fun a _ => .bvc a,
  fun a _ => .eor (.indY a),
  fun _ _ => .jam 0x52,
  fun a _ => .sre (.indY a),
  fun a _ => .nopUnofficial 0x54 (.zpX a),
  fun a _ => .eor (.zpX a),
  fun a _ => .lsr (.zpX a),
  fun a _ => .sre (.zpX a),
  fun _ _ => .cli,
  fun a b => .eor (.absY (word16 b a)),
  fun _ _ => .nopUnofficial 0x5A .imp,
  fun a b => .sre (.absY (word16 b a)),
  fun a b => .nopUnofficial 0x5C (.absX (word16 b a)),
  fun a b => .eor (.absX (word16 b a)),
  fun a b => .lsr (.absX (word16 b a)),
  fun a b => .sre (.absX (word16 b a)) ]

/-- Row 6x of the opcode map R115: the instruction each opcode gives with operand bytes `a`, `b` (R91, R94). -/
def decodeRow6 : List (Byte → Byte → Instr) := [
  fun _ _ => .rts,
  fun a _ => .adc (.indX a),
  fun _ _ => .jam 0x62,
  fun a _ => .rra (.indX a),
  fun a _ => .nopUnofficial 0x64 (.zp a),
  fun a _ => .adc (.zp a),
  fun a _ => .ror (.zp a),
  fun a _ => .rra (.zp a),
  fun _ _ => .pla,
  fun a _ => .adc (.imm a),
  fun _ _ => .ror .acc,
  fun a _ => .arr a,
  fun a b => .jmp (.ind (word16 b a)),
  fun a b => .adc (.abs (word16 b a)),
  fun a b => .ror (.abs (word16 b a)),
  fun a b => .rra (.abs (word16 b a)) ]

/-- Row 7x of the opcode map R115: the instruction each opcode gives with operand bytes `a`, `b` (R91, R94). -/
def decodeRow7 : List (Byte → Byte → Instr) := [
  fun a _ => .bvs a,
  fun a _ => .adc (.indY a),
  fun _ _ => .jam 0x72,
  fun a _ => .rra (.indY a),
  fun a _ => .nopUnofficial 0x74 (.zpX a),
  fun a _ => .adc (.zpX a),
  fun a _ => .ror (.zpX a),
  fun a _ => .rra (.zpX a),
  fun _ _ => .sei,
  fun a b => .adc (.absY (word16 b a)),
  fun _ _ => .nopUnofficial 0x7A .imp,
  fun a b => .rra (.absY (word16 b a)),
  fun a b => .nopUnofficial 0x7C (.absX (word16 b a)),
  fun a b => .adc (.absX (word16 b a)),
  fun a b => .ror (.absX (word16 b a)),
  fun a b => .rra (.absX (word16 b a)) ]

/-- Row 8x of the opcode map R115: the instruction each opcode gives with operand bytes `a`, `b` (R91, R94). -/
def decodeRow8 : List (Byte → Byte → Instr) := [
  fun a _ => .nopUnofficial 0x80 (.imm a),
  fun a _ => .sta (.indX a),
  fun a _ => .nopUnofficial 0x82 (.imm a),
  fun a _ => .sax (.indX a),
  fun a _ => .sty (.zp a),
  fun a _ => .sta (.zp a),
  fun a _ => .stx (.zp a),
  fun a _ => .sax (.zp a),
  fun _ _ => .dey,
  fun a _ => .nopUnofficial 0x89 (.imm a),
  fun _ _ => .txa,
  fun a _ => .ane a,
  fun a b => .sty (.abs (word16 b a)),
  fun a b => .sta (.abs (word16 b a)),
  fun a b => .stx (.abs (word16 b a)),
  fun a b => .sax (.abs (word16 b a)) ]

/-- Row 9x of the opcode map R115: the instruction each opcode gives with operand bytes `a`, `b` (R91, R94). -/
def decodeRow9 : List (Byte → Byte → Instr) := [
  fun a _ => .bcc a,
  fun a _ => .sta (.indY a),
  fun _ _ => .jam 0x92,
  fun a _ => .sha (.indY a),
  fun a _ => .sty (.zpX a),
  fun a _ => .sta (.zpX a),
  fun a _ => .stx (.zpY a),
  fun a _ => .sax (.zpY a),
  fun _ _ => .tya,
  fun a b => .sta (.absY (word16 b a)),
  fun _ _ => .txs,
  fun a b => .tas (word16 b a),
  fun a b => .shy (word16 b a),
  fun a b => .sta (.absX (word16 b a)),
  fun a b => .shx (word16 b a),
  fun a b => .sha (.absY (word16 b a)) ]

/-- Row Ax of the opcode map R115: the instruction each opcode gives with operand bytes `a`, `b` (R91, R94). -/
def decodeRowA : List (Byte → Byte → Instr) := [
  fun a _ => .ldy (.imm a),
  fun a _ => .lda (.indX a),
  fun a _ => .ldx (.imm a),
  fun a _ => .lax (.indX a),
  fun a _ => .ldy (.zp a),
  fun a _ => .lda (.zp a),
  fun a _ => .ldx (.zp a),
  fun a _ => .lax (.zp a),
  fun _ _ => .tay,
  fun a _ => .lda (.imm a),
  fun _ _ => .tax,
  fun a _ => .lxa a,
  fun a b => .ldy (.abs (word16 b a)),
  fun a b => .lda (.abs (word16 b a)),
  fun a b => .ldx (.abs (word16 b a)),
  fun a b => .lax (.abs (word16 b a)) ]

/-- Row Bx of the opcode map R115: the instruction each opcode gives with operand bytes `a`, `b` (R91, R94). -/
def decodeRowB : List (Byte → Byte → Instr) := [
  fun a _ => .bcs a,
  fun a _ => .lda (.indY a),
  fun _ _ => .jam 0xB2,
  fun a _ => .lax (.indY a),
  fun a _ => .ldy (.zpX a),
  fun a _ => .lda (.zpX a),
  fun a _ => .ldx (.zpY a),
  fun a _ => .lax (.zpY a),
  fun _ _ => .clv,
  fun a b => .lda (.absY (word16 b a)),
  fun _ _ => .tsx,
  fun a b => .las (word16 b a),
  fun a b => .ldy (.absX (word16 b a)),
  fun a b => .lda (.absX (word16 b a)),
  fun a b => .ldx (.absY (word16 b a)),
  fun a b => .lax (.absY (word16 b a)) ]

/-- Row Cx of the opcode map R115: the instruction each opcode gives with operand bytes `a`, `b` (R91, R94). -/
def decodeRowC : List (Byte → Byte → Instr) := [
  fun a _ => .cpy (.imm a),
  fun a _ => .cmp (.indX a),
  fun a _ => .nopUnofficial 0xC2 (.imm a),
  fun a _ => .dcp (.indX a),
  fun a _ => .cpy (.zp a),
  fun a _ => .cmp (.zp a),
  fun a _ => .dec (.zp a),
  fun a _ => .dcp (.zp a),
  fun _ _ => .iny,
  fun a _ => .cmp (.imm a),
  fun _ _ => .dex,
  fun a _ => .sbx a,
  fun a b => .cpy (.abs (word16 b a)),
  fun a b => .cmp (.abs (word16 b a)),
  fun a b => .dec (.abs (word16 b a)),
  fun a b => .dcp (.abs (word16 b a)) ]

/-- Row Dx of the opcode map R115: the instruction each opcode gives with operand bytes `a`, `b` (R91, R94). -/
def decodeRowD : List (Byte → Byte → Instr) := [
  fun a _ => .bne a,
  fun a _ => .cmp (.indY a),
  fun _ _ => .jam 0xD2,
  fun a _ => .dcp (.indY a),
  fun a _ => .nopUnofficial 0xD4 (.zpX a),
  fun a _ => .cmp (.zpX a),
  fun a _ => .dec (.zpX a),
  fun a _ => .dcp (.zpX a),
  fun _ _ => .cld,
  fun a b => .cmp (.absY (word16 b a)),
  fun _ _ => .nopUnofficial 0xDA .imp,
  fun a b => .dcp (.absY (word16 b a)),
  fun a b => .nopUnofficial 0xDC (.absX (word16 b a)),
  fun a b => .cmp (.absX (word16 b a)),
  fun a b => .dec (.absX (word16 b a)),
  fun a b => .dcp (.absX (word16 b a)) ]

/-- Row Ex of the opcode map R115: the instruction each opcode gives with operand bytes `a`, `b` (R91, R94). -/
def decodeRowE : List (Byte → Byte → Instr) := [
  fun a _ => .cpx (.imm a),
  fun a _ => .sbc (.indX a),
  fun a _ => .nopUnofficial 0xE2 (.imm a),
  fun a _ => .isb (.indX a),
  fun a _ => .cpx (.zp a),
  fun a _ => .sbc (.zp a),
  fun a _ => .inc (.zp a),
  fun a _ => .isb (.zp a),
  fun _ _ => .inx,
  fun a _ => .sbc (.imm a),
  fun _ _ => .nop,
  fun a _ => .sbcUnofficial a,
  fun a b => .cpx (.abs (word16 b a)),
  fun a b => .sbc (.abs (word16 b a)),
  fun a b => .inc (.abs (word16 b a)),
  fun a b => .isb (.abs (word16 b a)) ]

/-- Row Fx of the opcode map R115: the instruction each opcode gives with operand bytes `a`, `b` (R91, R94). -/
def decodeRowF : List (Byte → Byte → Instr) := [
  fun a _ => .beq a,
  fun a _ => .sbc (.indY a),
  fun _ _ => .jam 0xF2,
  fun a _ => .isb (.indY a),
  fun a _ => .nopUnofficial 0xF4 (.zpX a),
  fun a _ => .sbc (.zpX a),
  fun a _ => .inc (.zpX a),
  fun a _ => .isb (.zpX a),
  fun _ _ => .sed,
  fun a b => .sbc (.absY (word16 b a)),
  fun _ _ => .nopUnofficial 0xFA .imp,
  fun a b => .isb (.absY (word16 b a)),
  fun a b => .nopUnofficial 0xFC (.absX (word16 b a)),
  fun a b => .sbc (.absX (word16 b a)),
  fun a b => .inc (.absX (word16 b a)),
  fun a b => .isb (.absX (word16 b a)) ]

/-- The opcode map of R115 in opcode order. -/
def decodeMap : List (Byte → Byte → Instr) :=
  decodeRow0 ++ decodeRow1 ++ decodeRow2 ++ decodeRow3 ++ decodeRow4 ++ decodeRow5 ++ decodeRow6 ++ decodeRow7 ++
  decodeRow8 ++ decodeRow9 ++ decodeRowA ++ decodeRowB ++ decodeRowC ++ decodeRowD ++ decodeRowE ++ decodeRowF

/-- The instruction with opcode byte `op` whose operand bytes, where it has any, are `a` and then `b` (R92, R123). -/
def decodeBytes (op a b : Byte) : Instr := decodeMap.getD op.toNat (fun _ _ => .jam op) a b

/-- Why a list of bytes holds no instruction. No opcode is refused (R123); a list can only end too early. -/
inductive DecodeError
  | noOpcode
  | missingOperand (op : Byte)
  deriving DecidableEq, Repr

/-- Decode the first instruction of a list of bytes, with the bytes after it. -/
def decode : List Byte → Except DecodeError (Instr × List Byte)
  | [] => .error .noOpcode
  | op :: rest =>
    let n := (entry op).length - 1
    if rest.length < n then .error (.missingOperand op)
    else .ok (decodeBytes op (rest.getD 0 0) (rest.getD 1 0), rest.drop n)

/-- Byte `k` of an instruction written as one number, bit 0 the least significant bit of the first byte. -/
def tableByte (w k : Nat) : Byte := BitVec.ofNat 8 (w >>> (8 * k))

/-- The three bytes of an instruction of `nbits` bits given as one number; the bits above `nbits` are zero. -/
def tableBytes (nbits w : Nat) : List Byte :=
  let v := w % 2 ^ nbits
  [tableByte v 0, tableByte v 1, tableByte v 2]

/-- The instruction the decoder reads from an instruction given as one number, numbered as spec/opcode_table.json numbers it. -/
def decodeTableWord (nbits w : Nat) : Option Instr :=
  match decode (tableBytes nbits w) with
  | .ok (i, _) => some i
  | .error _ => none

/-! ## Encoding -/

/-- A 16-bit operand as stored: low byte first (R94, 20_memory.md R69). -/
def wordBytes (w : Addr) : List Byte := [lo8 w, hi8 w]

/-- The operand bytes of each form (R91). -/
def AluOperand.bytes : AluOperand → List Byte
  | .imm b => [b]
  | .zp z => [z]
  | .zpX z => [z]
  | .abs w => wordBytes w
  | .absX w => wordBytes w
  | .absY w => wordBytes w
  | .indX z => [z]
  | .indY z => [z]

/-- The operand bytes of each form (R91). -/
def Mem7Operand.bytes : Mem7Operand → List Byte
  | .zp z => [z]
  | .zpX z => [z]
  | .abs w => wordBytes w
  | .absX w => wordBytes w
  | .absY w => wordBytes w
  | .indX z => [z]
  | .indY z => [z]

/-- The operand bytes of each form (R91). -/
def Mem4Operand.bytes : Mem4Operand → List Byte
  | .zp z => [z]
  | .zpX z => [z]
  | .abs w => wordBytes w
  | .absX w => wordBytes w

/-- The operand bytes of each form (R91). -/
def ShiftOperand.bytes : ShiftOperand → List Byte
  | .acc => []
  | .zp z => [z]
  | .zpX z => [z]
  | .abs w => wordBytes w
  | .absX w => wordBytes w

/-- The operand bytes of each form (R91). -/
def LdxOperand.bytes : LdxOperand → List Byte
  | .imm b => [b]
  | .zp z => [z]
  | .zpY z => [z]
  | .abs w => wordBytes w
  | .absY w => wordBytes w

/-- The operand bytes of each form (R91). -/
def LdyOperand.bytes : LdyOperand → List Byte
  | .imm b => [b]
  | .zp z => [z]
  | .zpX z => [z]
  | .abs w => wordBytes w
  | .absX w => wordBytes w

/-- The operand bytes of each form (R91). -/
def StxOperand.bytes : StxOperand → List Byte
  | .zp z => [z]
  | .zpY z => [z]
  | .abs w => wordBytes w

/-- The operand bytes of each form (R91). -/
def StyOperand.bytes : StyOperand → List Byte
  | .zp z => [z]
  | .zpX z => [z]
  | .abs w => wordBytes w

/-- The operand bytes of each form (R91). -/
def CpOperand.bytes : CpOperand → List Byte
  | .imm b => [b]
  | .zp z => [z]
  | .abs w => wordBytes w

/-- The operand bytes of each form (R91). -/
def BitOperand.bytes : BitOperand → List Byte
  | .zp z => [z]
  | .abs w => wordBytes w

/-- The operand bytes of each form (R91). -/
def JmpOperand.bytes : JmpOperand → List Byte
  | .abs w => wordBytes w
  | .ind w => wordBytes w

/-- The operand bytes of each form (R91). -/
def LaxOperand.bytes : LaxOperand → List Byte
  | .zp z => [z]
  | .zpY z => [z]
  | .abs w => wordBytes w
  | .absY w => wordBytes w
  | .indX z => [z]
  | .indY z => [z]

/-- The operand bytes of each form (R91). -/
def SaxOperand.bytes : SaxOperand → List Byte
  | .zp z => [z]
  | .zpY z => [z]
  | .abs w => wordBytes w
  | .indX z => [z]

/-- The operand bytes of each form (R91). -/
def NopOperand.bytes : NopOperand → List Byte
  | .imp => []
  | .imm b => [b]
  | .zp z => [z]
  | .zpX z => [z]
  | .abs w => wordBytes w
  | .absX w => wordBytes w

/-- The operand bytes of each form (R91). -/
def ShaOperand.bytes : ShaOperand → List Byte
  | .absY w => wordBytes w
  | .indY z => [z]

/-- The addressing mode of each form (R97). -/
def AluOperand.mode : AluOperand → Mode
  | .imm _ => .immediate
  | .zp _ => .zeroPage
  | .zpX _ => .zeroPageX
  | .abs _ => .absolute
  | .absX _ => .absoluteX
  | .absY _ => .absoluteY
  | .indX _ => .indexedIndirect
  | .indY _ => .indirectIndexed

/-- The addressing mode of each form (R97). -/
def Mem7Operand.mode : Mem7Operand → Mode
  | .zp _ => .zeroPage
  | .zpX _ => .zeroPageX
  | .abs _ => .absolute
  | .absX _ => .absoluteX
  | .absY _ => .absoluteY
  | .indX _ => .indexedIndirect
  | .indY _ => .indirectIndexed

/-- The addressing mode of each form (R97). -/
def Mem4Operand.mode : Mem4Operand → Mode
  | .zp _ => .zeroPage
  | .zpX _ => .zeroPageX
  | .abs _ => .absolute
  | .absX _ => .absoluteX

/-- The addressing mode of each form (R97). -/
def ShiftOperand.mode : ShiftOperand → Mode
  | .acc => .accumulator
  | .zp _ => .zeroPage
  | .zpX _ => .zeroPageX
  | .abs _ => .absolute
  | .absX _ => .absoluteX

/-- The addressing mode of each form (R97). -/
def LdxOperand.mode : LdxOperand → Mode
  | .imm _ => .immediate
  | .zp _ => .zeroPage
  | .zpY _ => .zeroPageY
  | .abs _ => .absolute
  | .absY _ => .absoluteY

/-- The addressing mode of each form (R97). -/
def LdyOperand.mode : LdyOperand → Mode
  | .imm _ => .immediate
  | .zp _ => .zeroPage
  | .zpX _ => .zeroPageX
  | .abs _ => .absolute
  | .absX _ => .absoluteX

/-- The addressing mode of each form (R97). -/
def StxOperand.mode : StxOperand → Mode
  | .zp _ => .zeroPage
  | .zpY _ => .zeroPageY
  | .abs _ => .absolute

/-- The addressing mode of each form (R97). -/
def StyOperand.mode : StyOperand → Mode
  | .zp _ => .zeroPage
  | .zpX _ => .zeroPageX
  | .abs _ => .absolute

/-- The addressing mode of each form (R97). -/
def CpOperand.mode : CpOperand → Mode
  | .imm _ => .immediate
  | .zp _ => .zeroPage
  | .abs _ => .absolute

/-- The addressing mode of each form (R97). -/
def BitOperand.mode : BitOperand → Mode
  | .zp _ => .zeroPage
  | .abs _ => .absolute

/-- The addressing mode of each form (R97). -/
def JmpOperand.mode : JmpOperand → Mode
  | .abs _ => .absolute
  | .ind _ => .indirect

/-- The addressing mode of each form (R97). -/
def LaxOperand.mode : LaxOperand → Mode
  | .zp _ => .zeroPage
  | .zpY _ => .zeroPageY
  | .abs _ => .absolute
  | .absY _ => .absoluteY
  | .indX _ => .indexedIndirect
  | .indY _ => .indirectIndexed

/-- The addressing mode of each form (R97). -/
def SaxOperand.mode : SaxOperand → Mode
  | .zp _ => .zeroPage
  | .zpY _ => .zeroPageY
  | .abs _ => .absolute
  | .indX _ => .indexedIndirect

/-- The addressing mode of each form (R97). -/
def NopOperand.mode : NopOperand → Mode
  | .imp => .implied
  | .imm _ => .immediate
  | .zp _ => .zeroPage
  | .zpX _ => .zeroPageX
  | .abs _ => .absolute
  | .absX _ => .absoluteX

/-- The addressing mode of each form (R97). -/
def ShaOperand.mode : ShaOperand → Mode
  | .absY _ => .absoluteY
  | .indY _ => .indirectIndexed

/-- The opcode byte of each instruction form (R115 and the Encoding line of each instruction rule). -/
def Instr.opcode : Instr → Byte
  | .lda (.imm _) => 0xA9 | .lda (.zp _) => 0xA5 | .lda (.zpX _) => 0xB5 | .lda (.abs _) => 0xAD
  | .lda (.absX _) => 0xBD | .lda (.absY _) => 0xB9 | .lda (.indX _) => 0xA1 | .lda (.indY _) => 0xB1
  | .ldx (.imm _) => 0xA2 | .ldx (.zp _) => 0xA6 | .ldx (.zpY _) => 0xB6 | .ldx (.abs _) => 0xAE
  | .ldx (.absY _) => 0xBE
  | .ldy (.imm _) => 0xA0 | .ldy (.zp _) => 0xA4 | .ldy (.zpX _) => 0xB4 | .ldy (.abs _) => 0xAC
  | .ldy (.absX _) => 0xBC
  | .sta (.zp _) => 0x85 | .sta (.zpX _) => 0x95 | .sta (.abs _) => 0x8D | .sta (.absX _) => 0x9D
  | .sta (.absY _) => 0x99 | .sta (.indX _) => 0x81 | .sta (.indY _) => 0x91
  | .stx (.zp _) => 0x86 | .stx (.zpY _) => 0x96 | .stx (.abs _) => 0x8E
  | .sty (.zp _) => 0x84 | .sty (.zpX _) => 0x94 | .sty (.abs _) => 0x8C
  | .tax => 0xAA
  | .tay => 0xA8
  | .txa => 0x8A
  | .tya => 0x98
  | .tsx => 0xBA
  | .txs => 0x9A
  | .pha => 0x48
  | .php => 0x08
  | .pla => 0x68
  | .plp => 0x28
  | .adc (.imm _) => 0x69 | .adc (.zp _) => 0x65 | .adc (.zpX _) => 0x75 | .adc (.abs _) => 0x6D
  | .adc (.absX _) => 0x7D | .adc (.absY _) => 0x79 | .adc (.indX _) => 0x61 | .adc (.indY _) => 0x71
  | .sbc (.imm _) => 0xE9 | .sbc (.zp _) => 0xE5 | .sbc (.zpX _) => 0xF5 | .sbc (.abs _) => 0xED
  | .sbc (.absX _) => 0xFD | .sbc (.absY _) => 0xF9 | .sbc (.indX _) => 0xE1 | .sbc (.indY _) => 0xF1
  | .cmp (.imm _) => 0xC9 | .cmp (.zp _) => 0xC5 | .cmp (.zpX _) => 0xD5 | .cmp (.abs _) => 0xCD
  | .cmp (.absX _) => 0xDD | .cmp (.absY _) => 0xD9 | .cmp (.indX _) => 0xC1 | .cmp (.indY _) => 0xD1
  | .cpx (.imm _) => 0xE0 | .cpx (.zp _) => 0xE4 | .cpx (.abs _) => 0xEC
  | .cpy (.imm _) => 0xC0 | .cpy (.zp _) => 0xC4 | .cpy (.abs _) => 0xCC
  | .and (.imm _) => 0x29 | .and (.zp _) => 0x25 | .and (.zpX _) => 0x35 | .and (.abs _) => 0x2D
  | .and (.absX _) => 0x3D | .and (.absY _) => 0x39 | .and (.indX _) => 0x21 | .and (.indY _) => 0x31
  | .ora (.imm _) => 0x09 | .ora (.zp _) => 0x05 | .ora (.zpX _) => 0x15 | .ora (.abs _) => 0x0D
  | .ora (.absX _) => 0x1D | .ora (.absY _) => 0x19 | .ora (.indX _) => 0x01 | .ora (.indY _) => 0x11
  | .eor (.imm _) => 0x49 | .eor (.zp _) => 0x45 | .eor (.zpX _) => 0x55 | .eor (.abs _) => 0x4D
  | .eor (.absX _) => 0x5D | .eor (.absY _) => 0x59 | .eor (.indX _) => 0x41 | .eor (.indY _) => 0x51
  | .bit (.zp _) => 0x24 | .bit (.abs _) => 0x2C
  | .inc (.zp _) => 0xE6 | .inc (.zpX _) => 0xF6 | .inc (.abs _) => 0xEE | .inc (.absX _) => 0xFE
  | .dec (.zp _) => 0xC6 | .dec (.zpX _) => 0xD6 | .dec (.abs _) => 0xCE | .dec (.absX _) => 0xDE
  | .inx => 0xE8
  | .iny => 0xC8
  | .dex => 0xCA
  | .dey => 0x88
  | .asl .acc => 0x0A | .asl (.zp _) => 0x06 | .asl (.zpX _) => 0x16 | .asl (.abs _) => 0x0E
  | .asl (.absX _) => 0x1E
  | .lsr .acc => 0x4A | .lsr (.zp _) => 0x46 | .lsr (.zpX _) => 0x56 | .lsr (.abs _) => 0x4E
  | .lsr (.absX _) => 0x5E
  | .rol .acc => 0x2A | .rol (.zp _) => 0x26 | .rol (.zpX _) => 0x36 | .rol (.abs _) => 0x2E
  | .rol (.absX _) => 0x3E
  | .ror .acc => 0x6A | .ror (.zp _) => 0x66 | .ror (.zpX _) => 0x76 | .ror (.abs _) => 0x6E
  | .ror (.absX _) => 0x7E
  | .jmp (.abs _) => 0x4C | .jmp (.ind _) => 0x6C
  | .jsr _ => 0x20
  | .rts => 0x60
  | .rti => 0x40
  | .bpl _ => 0x10
  | .bmi _ => 0x30
  | .bvc _ => 0x50
  | .bvs _ => 0x70
  | .bcc _ => 0x90
  | .bcs _ => 0xB0
  | .bne _ => 0xD0
  | .beq _ => 0xF0
  | .brk => 0x00
  | .clc => 0x18
  | .sec => 0x38
  | .cli => 0x58
  | .sei => 0x78
  | .cld => 0xD8
  | .sed => 0xF8
  | .clv => 0xB8
  | .nop => 0xEA
  | .nopUnofficial op _ => op
  | .lax (.zp _) => 0xA7 | .lax (.zpY _) => 0xB7 | .lax (.abs _) => 0xAF | .lax (.absY _) => 0xBF
  | .lax (.indX _) => 0xA3 | .lax (.indY _) => 0xB3
  | .sax (.zp _) => 0x87 | .sax (.zpY _) => 0x97 | .sax (.abs _) => 0x8F | .sax (.indX _) => 0x83
  | .sbcUnofficial _ => 0xEB
  | .slo (.zp _) => 0x07 | .slo (.zpX _) => 0x17 | .slo (.abs _) => 0x0F | .slo (.absX _) => 0x1F
  | .slo (.absY _) => 0x1B | .slo (.indX _) => 0x03 | .slo (.indY _) => 0x13
  | .rla (.zp _) => 0x27 | .rla (.zpX _) => 0x37 | .rla (.abs _) => 0x2F | .rla (.absX _) => 0x3F
  | .rla (.absY _) => 0x3B | .rla (.indX _) => 0x23 | .rla (.indY _) => 0x33
  | .sre (.zp _) => 0x47 | .sre (.zpX _) => 0x57 | .sre (.abs _) => 0x4F | .sre (.absX _) => 0x5F
  | .sre (.absY _) => 0x5B | .sre (.indX _) => 0x43 | .sre (.indY _) => 0x53
  | .rra (.zp _) => 0x67 | .rra (.zpX _) => 0x77 | .rra (.abs _) => 0x6F | .rra (.absX _) => 0x7F
  | .rra (.absY _) => 0x7B | .rra (.indX _) => 0x63 | .rra (.indY _) => 0x73
  | .dcp (.zp _) => 0xC7 | .dcp (.zpX _) => 0xD7 | .dcp (.abs _) => 0xCF | .dcp (.absX _) => 0xDF
  | .dcp (.absY _) => 0xDB | .dcp (.indX _) => 0xC3 | .dcp (.indY _) => 0xD3
  | .isb (.zp _) => 0xE7 | .isb (.zpX _) => 0xF7 | .isb (.abs _) => 0xEF | .isb (.absX _) => 0xFF
  | .isb (.absY _) => 0xFB | .isb (.indX _) => 0xE3 | .isb (.indY _) => 0xF3
  | .anc op _ => op
  | .alr _ => 0x4B
  | .arr _ => 0x6B
  | .sbx _ => 0xCB
  | .jam op => op
  | .ane _ => 0x8B
  | .lxa _ => 0xAB
  | .sha (.absY _) => 0x9F | .sha (.indY _) => 0x93
  | .shx _ => 0x9E
  | .shy _ => 0x9C
  | .tas _ => 0x9B
  | .las _ => 0xBB

/-- The operand bytes of an instruction, in address order (R91). -/
def Instr.operandBytes : Instr → List Byte
  | .lda o => o.bytes
  | .ldx o => o.bytes
  | .ldy o => o.bytes
  | .sta o => o.bytes
  | .stx o => o.bytes
  | .sty o => o.bytes
  | .adc o => o.bytes
  | .sbc o => o.bytes
  | .cmp o => o.bytes
  | .cpx o => o.bytes
  | .cpy o => o.bytes
  | .and o => o.bytes
  | .ora o => o.bytes
  | .eor o => o.bytes
  | .bit o => o.bytes
  | .inc o => o.bytes
  | .dec o => o.bytes
  | .asl o => o.bytes
  | .lsr o => o.bytes
  | .rol o => o.bytes
  | .ror o => o.bytes
  | .jmp o => o.bytes
  | .jsr w => wordBytes w
  | .bpl r => [r]
  | .bmi r => [r]
  | .bvc r => [r]
  | .bvs r => [r]
  | .bcc r => [r]
  | .bcs r => [r]
  | .bne r => [r]
  | .beq r => [r]
  | .nopUnofficial _ o => o.bytes
  | .lax o => o.bytes
  | .sax o => o.bytes
  | .sbcUnofficial b => [b]
  | .slo o => o.bytes
  | .rla o => o.bytes
  | .sre o => o.bytes
  | .rra o => o.bytes
  | .dcp o => o.bytes
  | .isb o => o.bytes
  | .anc _ b => [b]
  | .alr b => [b]
  | .arr b => [b]
  | .sbx b => [b]
  | .ane b => [b]
  | .lxa b => [b]
  | .sha o => o.bytes
  | .shx w => wordBytes w
  | .shy w => wordBytes w
  | .tas w => wordBytes w
  | .las w => wordBytes w
  | .tax | .tay | .txa | .tya | .tsx | .txs | .pha | .php | .pla | .plp | .inx | .iny => []
  | .dex | .dey | .rts | .rti | .brk | .clc | .sec | .cli | .sei | .cld | .sed | .clv => []
  | .nop | .jam _ => []

/-- The bytes of an instruction: the opcode byte, then its operand bytes (R91). -/
def Instr.encode (i : Instr) : List Byte := i.opcode :: i.operandBytes

/-- The mnemonic of an instruction (R120). -/
def Instr.mnemonic : Instr → Mnemonic
  | .lda _ => .lda | .ldx _ => .ldx | .ldy _ => .ldy | .sta _ => .sta | .stx _ => .stx | .sty _ => .sty
  | .tax => .tax | .tay => .tay | .txa => .txa | .tya => .tya | .tsx => .tsx | .txs => .txs
  | .pha => .pha | .php => .php | .pla => .pla | .plp => .plp | .adc _ => .adc | .sbc _ => .sbc
  | .cmp _ => .cmp | .cpx _ => .cpx | .cpy _ => .cpy | .and _ => .and | .ora _ => .ora | .eor _ => .eor
  | .bit _ => .bit | .inc _ => .inc | .dec _ => .dec | .inx => .inx | .iny => .iny | .dex => .dex
  | .dey => .dey | .asl _ => .asl | .lsr _ => .lsr | .rol _ => .rol | .ror _ => .ror | .jmp _ => .jmp
  | .jsr _ => .jsr | .rts => .rts | .rti => .rti | .bpl _ => .bpl | .bmi _ => .bmi | .bvc _ => .bvc
  | .bvs _ => .bvs | .bcc _ => .bcc | .bcs _ => .bcs | .bne _ => .bne | .beq _ => .beq | .brk => .brk
  | .clc => .clc | .sec => .sec | .cli => .cli | .sei => .sei | .cld => .cld | .sed => .sed
  | .clv => .clv | .nop => .nop | .nopUnofficial _ _ => .nop | .lax _ => .lax | .sax _ => .sax | .sbcUnofficial _ => .sbc
  | .slo _ => .slo | .rla _ => .rla | .sre _ => .sre | .rra _ => .rra | .dcp _ => .dcp | .isb _ => .isb
  | .anc _ _ => .anc | .alr _ => .alr | .arr _ => .arr | .sbx _ => .sbx | .jam _ => .jam | .ane _ => .ane
  | .lxa _ => .lxa | .sha _ => .sha | .shx _ => .shx | .shy _ => .shy | .tas _ => .tas | .las _ => .las

/-- The addressing mode of an instruction (R97). -/
def Instr.mode : Instr → Mode
  | .lda o => o.mode
  | .ldx o => o.mode
  | .ldy o => o.mode
  | .sta o => o.mode
  | .stx o => o.mode
  | .sty o => o.mode
  | .adc o => o.mode
  | .sbc o => o.mode
  | .cmp o => o.mode
  | .cpx o => o.mode
  | .cpy o => o.mode
  | .and o => o.mode
  | .ora o => o.mode
  | .eor o => o.mode
  | .bit o => o.mode
  | .inc o => o.mode
  | .dec o => o.mode
  | .asl o => o.mode
  | .lsr o => o.mode
  | .rol o => o.mode
  | .ror o => o.mode
  | .jmp o => o.mode
  | .jsr _ => .absolute
  | .bpl _ => .relative
  | .bmi _ => .relative
  | .bvc _ => .relative
  | .bvs _ => .relative
  | .bcc _ => .relative
  | .bcs _ => .relative
  | .bne _ => .relative
  | .beq _ => .relative
  | .nopUnofficial _ o => o.mode
  | .lax o => o.mode
  | .sax o => o.mode
  | .sbcUnofficial _ => .immediate
  | .slo o => o.mode
  | .rla o => o.mode
  | .sre o => o.mode
  | .rra o => o.mode
  | .dcp o => o.mode
  | .isb o => o.mode
  | .anc _ _ => .immediate
  | .alr _ => .immediate
  | .arr _ => .immediate
  | .sbx _ => .immediate
  | .ane _ => .immediate
  | .lxa _ => .immediate
  | .sha o => o.mode
  | .shx _ => .absoluteY
  | .shy _ => .absoluteX
  | .tas _ => .absoluteY
  | .las _ => .absoluteY
  | .tax | .tay | .txa | .tya | .tsx | .txs | .pha | .php | .pla | .plp | .inx | .iny => .implied
  | .dex | .dey | .rts | .rti | .brk | .clc | .sec | .cli | .sei | .cld | .sed | .clv => .implied
  | .nop | .jam _ => .implied

end Sys2Proof
end

