-- ==== Sys2Proof/Machine/State.lean ====
section
/-! DEFINITION. The machine's state (10_state.md R57), the reasons a step can stop, and the state after reset
(70_reset_and_hazards.md R341, R342). -/

namespace Sys2Proof.Machine

/-- A memory as data: the cells that do not read as `Config.unlistedByte`, addresses strictly rising. Memory.wf says the form. -/
abbrev Memory := List Host.Cell

/-- One write the host's hook performs through the bus (60_exceptions.md R311): an address and a byte. -/
abbrev HostWrite := Addr × Byte

/-- The run states (10_state.md R46). -/
inductive RunState
  /-- "initial": constructed, not reset; has no step. -/
  | reset
  /-- "steady-state fetch-decode-execute". -/
  | running
  /-- "transient": lasts only inside one step, during interrupt entry. -/
  | interruptServicing
  /-- "terminal": left only by reset. -/
  | halted
  deriving DecidableEq, Repr

/-- HALT_REASON (10_state.md R49, R50, decision D24). -/
inductive HaltReason
  | none
  /-- `Break(address)`: BRK under the Halt policy, with the address of its opcode byte. -/
  | brk (address : Addr)
  /-- `IllegalOpcode(opcode, address)` (60_exceptions.md R301). -/
  | illegalOpcode (op : Byte) (address : Addr)
  /-- A host-issued stop (60_exceptions.md R312). -/
  | hostStop
  deriving DecidableEq, Repr

/-- The reasons a step stops the model. -/
inductive Fault
  /-- Raised by step alone, when RUN is not Running: "In Reset and Halted it has none (the model is stuck there)" (10_state.md
  R47). Safe: the machine has no step there either. IllegalOpcode is no fault of the model: the spec gives its effect, so it is a
  next state (60_exceptions.md R301). -/
  | notRunning (run : RunState)
  deriving DecidableEq, Repr

/-- The reasons a step refuses an instruction. -/
inductive Refusal
  /-- Raised by an arm of exec for an instruction that has no meaning yet; safe. Every arm has its meaning, so none raises it. -/
  | notModelled (mnemonic : String)
  deriving DecidableEq, Repr

/-- The whole state of the core (10_state.md R57) with the constants and parameters of the launch (00_scope.md R10). -/
structure State where
  /-- Accumulator (R22). -/
  a : Byte
  /-- Index register X (R23). -/
  x : Byte
  /-- Index register Y (R24). -/
  y : Byte
  /-- Stack pointer, the offset into page 1 (R25, R34). -/
  sp : Byte
  /-- Program counter (R27). -/
  pc : Addr
  /-- Status register N V 1 B D I Z C, bit 7 to bit 0 (R35). -/
  p : Byte
  /-- The cycle counter CYC, unbounded (R51). -/
  cyc : Nat
  /-- The run state RUN (R46). -/
  run : RunState
  /-- HALT_REASON (R50). -/
  haltReason : HaltReason
  /-- NMI_PENDING (R52). -/
  nmiPending : Bool
  /-- IRQ_LEVEL, the platform's (R52). -/
  irqLevel : Bool
  /-- The 2,048 bytes of RAM, keyed by physical cell (R56, 20_memory.md R63). -/
  ram : Memory
  /-- The PRG image, keyed by offset; constant for the run (R55, 20_memory.md R66). -/
  prg : Memory
  /-- The length of the PRG image (20_memory.md R66). -/
  prgSize : PrgSize
  /-- The MODEL's form of the parameter HOOK: the writes of each coming hook call, next call first; a call beyond the list writes
  nothing (60_exceptions.md R311; DESIGN CHOICE, safe, notes/assumptions/4.md). -/
  hook : List (List HostWrite)
  /-- The parameters of the launch (00_scope.md R10). -/
  params : Params
  deriving DecidableEq, Repr

/-- The machine right after reset (R341, R342) with the default parameters, no PRG image loaded and RAM with nothing listed. PC is
the word at 0xFFFC of that image; Laws/Reset.lean shows that this state is the reset sequence applied to a constructed core. -/
def State.reset : State :=
  { a := 0x00, x := 0x00, y := 0x00, sp := Params.default.spReset, pc := 0x0000, p := 0x24
    cyc := Params.default.resetCycles, run := .running, haltReason := .none
    nmiPending := false, irqLevel := false
    ram := [], prg := [], prgSize := .kib16, hook := [], params := Params.default }

end Sys2Proof.Machine
end

