-- ==== Sys2Proof/Machine/Flags.lean ====
section
/-! DEFINITION. The bits of the status register P (10_state.md R35 to R45) and the ALU's computations, each with the flags it gives
(42_arith_logic.md R149, R152; 43_shift_rotate.md R167 to R170). All are functions of bytes; none reads the state. -/

namespace Sys2Proof.Machine

/-! ## P -/

/-- The eight bits of P (R35); `u` is the reserved always-set bit (R44). -/
inductive Flag
  | c | z | i | d | b | u | v | n
  deriving DecidableEq, Repr

/-- The position of a flag in P (R35). -/
def Flag.bit : Flag → Nat
  | .c => 0
  | .z => 1
  | .i => 2
  | .d => 3
  | .b => 4
  | .u => 5
  | .v => 6
  | .n => 7

/-- A status bit of P. -/
def getFlag (p : Byte) (f : Flag) : Bool := p.getLsbD f.bit

/-- P with one status bit written and the others untouched. -/
def setFlag (p : Byte) (f : Flag) (on : Bool) : Byte :=
  if on then p ||| (1#8 <<< f.bit) else p &&& ~~~(1#8 <<< f.bit)

/-- `SetNZ(v)` (R41): Z says whether the result byte is 0, N is its bit 7. -/
def setNZ (p v : Byte) : Byte := setFlag (setFlag p .z (v == 0)) .n (v.getLsbD 7)

/-- `PushImage(b) = (P & 0xCF) | 0x20 | (b << 4)` (R45). -/
def pushImage (p : Byte) (brk : Bool) : Byte :=
  (p &&& 0xCF) ||| 0x20 ||| ((if brk then 1#8 else 0#8) <<< 4)

/-- The P that `LoadP(v)` leaves: `(v & 0xCF) | 0x20` (R45). -/
def loadP (v : Byte) : Byte := (v &&& 0xCF) ||| 0x20

/-- A flag as the number 0 or 1. -/
def bitNat (on : Bool) : Nat := if on then 1 else 0

/-- A flag as a byte 0 or 1. -/
def bitByte (on : Bool) : Byte := if on then 1 else 0

/-! ## The adder, the comparator, shifts and rotates -/

/-- What the adder answers: the result byte, the carry out and the signed overflow. -/
structure AddResult where
  r : Byte
  carry : Bool
  overflow : Bool
  deriving DecidableEq, Repr

/-- `Add8(a, m, c)` (42_arith_logic.md R149), binary whatever P.D is (R148). -/
def add8 (a m : Byte) (c : Bool) : AddResult :=
  let s := a.toNat + m.toNat + bitNat c
  let r := BitVec.ofNat 8 s
  { r := r, carry := decide (s > 0xFF), overflow := ((~~~(a ^^^ m) &&& (a ^^^ r)) &&& 0x80) != 0 }

/-- P after `Compare(r, m)` (R152): C is `r >= m` unsigned, N and Z are of the 8-bit difference. -/
def comparedP (p r m : Byte) : Byte := setNZ (setFlag p .c (decide (m.toNat ≤ r.toNat))) (r - m)

/-- What a shift or rotate answers: the result byte and the bit moved out, which goes to C. -/
structure ShiftResult where
  r : Byte
  carry : Bool
  deriving DecidableEq, Repr

/-- The shift of ASL and SLO (43_shift_rotate.md R167). -/
def shiftLeft (v : Byte) : ShiftResult := { r := v <<< 1, carry := v.getLsbD 7 }

/-- The shift of LSR, SRE and ALR (R168). -/
def shiftRight (v : Byte) : ShiftResult := { r := v >>> 1, carry := v.getLsbD 0 }

/-- The rotate of ROL and RLA (R169). -/
def rotateLeft (v : Byte) (c : Bool) : ShiftResult := { r := (v <<< 1) ||| bitByte c, carry := v.getLsbD 7 }

/-- The rotate of ROR, RRA and, without its carry out, ARR (R170). -/
def rotateRight (v : Byte) (c : Bool) : ShiftResult := { r := (v >>> 1) ||| (bitByte c <<< 7), carry := v.getLsbD 0 }

end Sys2Proof.Machine
end

