-- ==== Sys2Proof/Machine/Ops.lean ====
section
/-! DEFINITION. The named operations over memory and registers that every meaning is written with: the memory lists, the bus
(20_memory.md R61 to R68), the registers, the stack (10_state.md R31 to R34), halting (R49), IllegalOpcode (60_exceptions.md R301),
taking an exception and returning from one (R305, 44_control_flow.md R174, R185), and the parts of a step that stand around an
instruction's own effect (10_state.md R47 steps 2, 5 and 6). -/

namespace Sys2Proof.Machine

/-! ## Memory lists -/

/-- The byte at an address: the listed one, else `Config.unlistedByte`. -/
def Memory.get : Memory → Nat → Byte
  | [], _ => Config.unlistedByte
  | (k, v) :: m, a => if k = a then v else Memory.get m a

/-- The memory without any entry for `a`. -/
def Memory.erase : Memory → Nat → Memory
  | [], _ => []
  | (k, v) :: m, a => if k = a then Memory.erase m a else (k, v) :: Memory.erase m a

/-- The memory with an entry for `a` put before the first higher address. -/
def Memory.insert : Memory → Nat → Byte → Memory
  | [], a, b => [(a, b)]
  | (k, v) :: m, a, b => if a < k then (a, b) :: (k, v) :: m else (k, v) :: Memory.insert m a b

/-- Write one byte and keep the canonical form: the byte an unlisted address reads as leaves no entry. -/
def Memory.set (m : Memory) (a : Nat) (b : Byte) : Memory :=
  if b = Config.unlistedByte then m.erase a else (m.erase a).insert a b

/-- Every key of the list is above `lo`, and each is above the one before it. -/
def Memory.risingFrom (lo : Nat) : Memory → Bool
  | [] => true
  | (k, _) :: m => decide (lo ≤ k) && Memory.risingFrom (k + 1) m

/-- The canonical form of a memory of `bound` bytes: addresses strictly rising and below the bound, no entry equal to what an
unlisted address reads as. -/
def Memory.wf (bound : Nat) (m : Memory) : Bool :=
  Memory.risingFrom 0 m && m.all (fun c => decide (c.1 < bound) && decide (c.2 ≠ Config.unlistedByte))

/-- The memory that holds a byte string from address `at` on. -/
def Memory.ofBytes : Nat → List Byte → Memory
  | _, [] => []
  | k, b :: bs => if b = Config.unlistedByte then Memory.ofBytes (k + 1) bs else (k, b) :: Memory.ofBytes (k + 1) bs

/-! ## Register and field updates -/

def State.setA (s : State) (v : Byte) : State := { s with a := v }
def State.setX (s : State) (v : Byte) : State := { s with x := v }
def State.setY (s : State) (v : Byte) : State := { s with y := v }
def State.setSp (s : State) (v : Byte) : State := { s with sp := v }
def State.setPc (s : State) (v : Addr) : State := { s with pc := v }
def State.setP (s : State) (v : Byte) : State := { s with p := v }
def State.addCycles (s : State) (n : Nat) : State := { s with cyc := s.cyc + n }
def State.setRun (s : State) (r : RunState) : State := { s with run := r }
def State.setHaltReason (s : State) (r : HaltReason) : State := { s with haltReason := r }
def State.setNmiPending (s : State) (on : Bool) : State := { s with nmiPending := on }
def State.setIrqLevel (s : State) (on : Bool) : State := { s with irqLevel := on }
def State.setRam (s : State) (m : Memory) : State := { s with ram := m }
def State.setPrg (s : State) (m : Memory) : State := { s with prg := m }
def State.setHook (s : State) (h : List (List HostWrite)) : State := { s with hook := h }

/-- A flag of the state's P. -/
def State.flag (s : State) (f : Flag) : Bool := getFlag s.p f

/-- Write one flag of P. -/
def State.setFlag (s : State) (f : Flag) (on : Bool) : State := s.setP (Machine.setFlag s.p f on)

/-- `SetNZ(v)` on the state's P (10_state.md R41). -/
def State.setNZ (s : State) (v : Byte) : State := s.setP (Machine.setNZ s.p v)

/-! ## The bus -/

/-- Where the bus routes an address (20_memory.md R61, R77). -/
inductive Region
  /-- Physical RAM cell (R63). -/
  | ram (cell : Nat)
  /-- Device register of the stubbed window (R64). -/
  | device (register : Addr)
  /-- 0x4000 to 0x7FFF (R65). -/
  | unassigned
  /-- Offset into the PRG image (R66). -/
  | prg (offset : Nat)
  deriving DecidableEq, Repr

/-- `addr & 0x07FF`: the physical RAM cell of an address below 0x2000 (R63). -/
def ramCell (addr : Addr) : Nat := (addr &&& 0x07FF).toNat

/-- `PrgOffset(addr)` (R66). -/
def prgOffset (size : PrgSize) (addr : Addr) : Nat :=
  match size with
  | .kib16 => ((addr - 0x8000) &&& 0x3FFF).toNat
  | .kib32 => (addr - 0x8000).toNat

/-- The address map (R61, R77). -/
def region (size : PrgSize) (addr : Addr) : Region :=
  if addr.toNat ≤ 0x1FFF then .ram (ramCell addr)
  else if addr.toNat ≤ 0x3FFF then .device (addr &&& 0x2007)
  else if addr.toNat ≤ 0x7FFF then .unassigned
  else .prg (prgOffset size addr)

/-- `Read8(addr)`: a one-byte bus read, with no side effect (R61, R73). -/
def readByte (s : State) (addr : Addr) : Byte :=
  match region s.prgSize addr with
  | .ram cell => s.ram.get cell
  | .device _ => 0x00
  | .unassigned => 0x00
  | .prg offset => s.prg.get offset

/-- `Write8(addr, v)`: a one-byte bus write; outside RAM it is dropped (R62). -/
def writeByte (s : State) (addr : Addr) (v : Byte) : State :=
  match region s.prgSize addr with
  | .ram cell => s.setRam (s.ram.set cell v)
  | .device _ => s
  | .unassigned => s
  | .prg _ => s

/-- `Read16(addr)`: low byte at the address, high byte at address + 1, wrapping at 0xFFFF (R68). -/
def readWord (s : State) (addr : Addr) : Addr := word16 (readByte s (addr + 1)) (readByte s addr)

/-- A byte as a zero-page address (30_encoding.md R101). -/
def zeroPage (z : Byte) : Addr := z.setWidth 16

/-- `Read16ZP(z)`: the word at a zero-page address, wrapping inside the zero page (30_encoding.md R106). -/
def readWordZP (s : State) (z : Byte) : Addr := word16 (readByte s (zeroPage (z + 1))) (readByte s (zeroPage z))

/-! ## The stack -/

/-- The stack location `0x0100 + SP` (10_state.md R25, R34). -/
def stackAddr (sp : Byte) : Addr := 0x0100 + sp.setWidth 16

/-- `Push8(v)`: write, then decrement SP (R31). -/
def push8 (s : State) (v : Byte) : State := (writeByte s (stackAddr s.sp) v).setSp (s.sp - 1)

/-- The state `Pull8()` leaves: SP incremented (R32). -/
def pull8 (s : State) : State := s.setSp (s.sp + 1)

/-- The byte `Pull8()` returns: the one at the incremented SP (R32). -/
def pulled8 (s : State) : Byte := readByte s (stackAddr (s.sp + 1))

/-- Push a 16-bit value, high byte first (20_memory.md R69, R72). -/
def push16 (s : State) (w : Addr) : State := push8 (push8 s (hi8 w)) (lo8 w)

/-- The state two pulls leave. -/
def pull16 (s : State) : State := pull8 (pull8 s)

/-- The 16-bit value two pulls return: low byte first (20_memory.md R69, R72). -/
def pulled16 (s : State) : Addr := word16 (pulled8 (pull8 s)) (pulled8 s)

/-! ## Halting and exceptions -/

/-- `halt(reason)`: RUN and HALT_REASON, nothing else (10_state.md R49). -/
def halt (reason : HaltReason) (s : State) : State := (s.setRun .halted).setHaltReason reason

/-- IllegalOpcode of the opcode at PC (60_exceptions.md R301): halt, with no other effect. -/
def raiseIllegalOpcode (op : Byte) (s : State) : State := halt (.illegalOpcode op s.pc) s

/-- The NMI vector (20_memory.md R78). -/
def nmiVector : Addr := 0xFFFA

/-- The reset vector (R78). -/
def resetVector : Addr := 0xFFFC

/-- The IRQ and BRK vector (R78). -/
def irqVector : Addr := 0xFFFE

/-- TAKING AN EXCEPTION, shared by interrupt entry (60_exceptions.md R305) and BRK under Trap (44_control_flow.md R185): push the
return address, high byte first, push the image of P with B as given, set I, load PC from the vector. -/
def takeException (ret : Addr) (brk : Bool) (vector : Addr) (s : State) : State :=
  let s1 := push16 s ret
  let s2 := push8 s1 (pushImage s1.p brk)
  let s3 := s2.setFlag .i true
  s3.setPc (readWord s3 vector)

/-- RETURN FROM AN EXCEPTION (44_control_flow.md R174): pull P, then PC, low byte first. -/
def returnFromException (s : State) : State :=
  let s1 := (pull8 s).setP (loadP (pulled8 s))
  (pull16 s1).setPc (pulled16 s1)

/-- Interrupt entry `Enter(vector)` (60_exceptions.md R305). -/
def enterInterrupt (vector : Addr) (s : State) : State :=
  ((takeException s.pc false vector (s.setRun .interruptServicing)).addCycles 7).setRun .running

/-- `InterruptCheck()`, step 0 of every step (60_exceptions.md R303): NMI first, then IRQ when I is 0. -/
def interruptCheck (s : State) : State :=
  if s.nmiPending then enterInterrupt nmiVector (s.setNmiPending false)
  else if s.irqLevel && !s.flag .i then enterInterrupt irqVector s
  else s

/-! ## The step around an instruction's effect -/

/-- The outcome of a meaning. -/
abbrev Result := Host.Outcome State Fault Refusal

/-- Step 2's test (10_state.md R47): does the opcode execute, or raise IllegalOpcode (30_encoding.md R112, 46_unofficial.md R196)? -/
def admitted (s : State) (op : Byte) : Bool :=
  match (entry op).tier with
  | .official => true
  | .unofficial => s.params.admitUnofficial
  | .unimplemented => false

/-- Step 6 without BRANCH_EXTRA: the base cost, plus 1 when the entry has the penalty and a page was crossed (R47, 30_encoding.md
R117). A tier-3 entry has no count and reads as 0 here (DEDUCED, safe, notes/assumptions/15.md). -/
def cost (op : Byte) (crossed : Bool) : Nat :=
  (entry op).cycles.getD 0 + bitNat ((entry op).pageCross && crossed)

/-- The address after an instruction: `u16(PC0 + length)` (10_state.md R27, R47 step 5). -/
def nextPc (op : Byte) (s : State) : Addr := s.pc + BitVec.ofNat 16 (entry op).length

/-- An instruction that does not write PC: its effect, then PC past it and its cycles; or IllegalOpcode (R47 steps 2, 4, 5, 6). -/
def perform (i : Instr) (crossed : Bool) (effect : State → State) (s : State) : Result :=
  if admitted s i.opcode then
    .next (((effect s).setPc (nextPc i.opcode s)).addCycles (cost i.opcode crossed))
  else .next (raiseIllegalOpcode i.opcode s)

/-- An instruction whose effect writes PC: the effect and its cycles with BRANCH_EXTRA; or IllegalOpcode (R47). -/
def performJump (i : Instr) (branchExtra : Nat) (effect : State → State) (s : State) : Result :=
  if admitted s i.opcode then .next ((effect s).addCycles (cost i.opcode false + branchExtra))
  else .next (raiseIllegalOpcode i.opcode s)

end Sys2Proof.Machine
end

