-- ==== Sys2Proof/Machine/Operands.lean ====
section
/-! DEFINITION. The addressing-mode resolver (30_encoding.md R97 to R111): effective addresses, page crossings, operand values,
and the operand forms of each instruction as the resolver's modes. -/

namespace Sys2Proof.Machine

/-- X as a 16-bit index. -/
def xIndex (s : State) : Addr := s.x.setWidth 16

/-- Y as a 16-bit index. -/
def yIndex (s : State) : Addr := s.y.setWidth 16

/-- The effective address EA of a memory mode (R101 to R107). -/
def effAddr (m : MemMode) (s : State) : Addr :=
  match m with
  | .zp z => zeroPage z
  | .zpX z => zeroPage (z + s.x)
  | .zpY z => zeroPage (z + s.y)
  | .abs w => w
  | .absX w => w + xIndex s
  | .absY w => w + yIndex s
  | .indX z => readWordZP s (z + s.x)
  | .indY z => readWordZP s z + yIndex s

/-- Whether two addresses lie in different pages (00_scope.md R15, R110). -/
def pagesDiffer (a b : Addr) : Bool := hi8 a != hi8 b

/-- The resolver's `crossed`: only the absolute-indexed modes and Indirect-Indexed cross a page (R97, R105, R107, R110). -/
def crossed (m : MemMode) (s : State) : Bool :=
  match m with
  | .absX w => pagesDiffer w (w + xIndex s)
  | .absY w => pagesDiffer w (w + yIndex s)
  | .indY z => pagesDiffer (readWordZP s z) (readWordZP s z + yIndex s)
  | .zp _ => false
  | .zpX _ => false
  | .zpY _ => false
  | .abs _ => false
  | .indX _ => false

/-- The effective address of Immediate, `u16(PC0 + 1)` (R100). -/
def immediateAddr (s : State) : Addr := s.pc + 1

/-- The operand value M (R100, R111): the byte itself for Immediate, `Read8(EA)` for a memory mode. -/
def operandValue (o : ReadOperand) (s : State) : Byte :=
  match o with
  | .imm b => b
  | .mem m => readByte s (effAddr m s)

/-- `crossed` of an operand that is read; Immediate never crosses (R97). -/
def operandCrossed (o : ReadOperand) (s : State) : Bool :=
  match o with
  | .imm _ => false
  | .mem m => crossed m s

/-- The target of JMP indirect (R108): the high byte of the pointer fetch does not carry into the page. -/
def indirectTarget (ptr : Addr) (s : State) : Addr :=
  word16 (readByte s (word16 (hi8 ptr) (lo8 ptr + 1))) (readByte s ptr)

/-- The target of a branch, `u16(PC0 + 2 + sext_8(b1))` (R109). -/
def branchTarget (r : Byte) (s : State) : Addr := s.pc + 2 + r.signExtend 16

/-! ## The operand forms as the resolver's modes -/

end Sys2Proof.Machine

namespace Sys2Proof

/-- The resolver's operand of each form. -/
def AluOperand.toRead : AluOperand → ReadOperand
  | .imm b => .imm b
  | .zp z => .mem (.zp z)
  | .zpX z => .mem (.zpX z)
  | .abs w => .mem (.abs w)
  | .absX w => .mem (.absX w)
  | .absY w => .mem (.absY w)
  | .indX z => .mem (.indX z)
  | .indY z => .mem (.indY z)

/-- The resolver's mode of each form. -/
def Mem7Operand.toMem : Mem7Operand → MemMode
  | .zp z => .zp z
  | .zpX z => .zpX z
  | .abs w => .abs w
  | .absX w => .absX w
  | .absY w => .absY w
  | .indX z => .indX z
  | .indY z => .indY z

/-- The resolver's mode of each form. -/
def Mem4Operand.toMem : Mem4Operand → MemMode
  | .zp z => .zp z
  | .zpX z => .zpX z
  | .abs w => .abs w
  | .absX w => .absX w

/-- The resolver's operand of each form. -/
def LdxOperand.toRead : LdxOperand → ReadOperand
  | .imm b => .imm b
  | .zp z => .mem (.zp z)
  | .zpY z => .mem (.zpY z)
  | .abs w => .mem (.abs w)
  | .absY w => .mem (.absY w)

/-- The resolver's operand of each form. -/
def LdyOperand.toRead : LdyOperand → ReadOperand
  | .imm b => .imm b
  | .zp z => .mem (.zp z)
  | .zpX z => .mem (.zpX z)
  | .abs w => .mem (.abs w)
  | .absX w => .mem (.absX w)

/-- The resolver's mode of each form. -/
def StxOperand.toMem : StxOperand → MemMode
  | .zp z => .zp z
  | .zpY z => .zpY z
  | .abs w => .abs w

/-- The resolver's mode of each form. -/
def StyOperand.toMem : StyOperand → MemMode
  | .zp z => .zp z
  | .zpX z => .zpX z
  | .abs w => .abs w

/-- The resolver's operand of each form. -/
def CpOperand.toRead : CpOperand → ReadOperand
  | .imm b => .imm b
  | .zp z => .mem (.zp z)
  | .abs w => .mem (.abs w)

/-- The resolver's mode of each form. -/
def BitOperand.toMem : BitOperand → MemMode
  | .zp z => .zp z
  | .abs w => .abs w

/-- The resolver's mode of each form. -/
def LaxOperand.toMem : LaxOperand → MemMode
  | .zp z => .zp z
  | .zpY z => .zpY z
  | .abs w => .abs w
  | .absY w => .absY w
  | .indX z => .indX z
  | .indY z => .indY z

/-- The resolver's mode of each form. -/
def SaxOperand.toMem : SaxOperand → MemMode
  | .zp z => .zp z
  | .zpY z => .zpY z
  | .abs w => .abs w
  | .indX z => .indX z

/-- The resolver's mode of each form. -/
def ShaOperand.toMem : ShaOperand → MemMode
  | .absY w => .absY w
  | .indY z => .indY z

/-- The operand an unofficial NOP reads and discards; the implied form has none (46_unofficial.md R197). -/
def NopOperand.toRead : NopOperand → Option ReadOperand
  | .imp => none
  | .imm b => some (.imm b)
  | .zp z => some (.mem (.zp z))
  | .zpX z => some (.mem (.zpX z))
  | .abs w => some (.mem (.abs w))
  | .absX w => some (.mem (.absX w))

/-- The memory mode of a shift or rotate; the accumulator form has none (R99). -/
def ShiftOperand.toMem : ShiftOperand → Option MemMode
  | .acc => none
  | .zp z => some (.zp z)
  | .zpX z => some (.zpX z)
  | .abs w => some (.abs w)
  | .absX w => some (.absX w)

/-- The target of each form of JMP (R104, R108). -/
def JmpOperand.target (o : JmpOperand) (s : Machine.State) : Addr :=
  match o with
  | .abs w => w
  | .ind w => Machine.indirectTarget w s

end Sys2Proof

namespace Sys2Proof.Machine

/-! ## Reading, storing and read-modify-write -/

/-- An instruction that reads its operand M and acts on registers and flags. -/
def performRead (i : Instr) (o : ReadOperand) (effect : Byte → State → State) (s : State) : Result :=
  perform i (operandCrossed o s) (effect (operandValue o s)) s

/-- An instruction that stores a byte at EA and does not read it (R111). -/
def performStore (i : Instr) (m : MemMode) (value : State → Byte) (s : State) : Result :=
  perform i (crossed m s) (fun s => writeByte s (effAddr m s) (value s)) s

/-- A read-modify-write instruction (20_memory.md R75): M is read once, the byte `result M` is written once to the same EA, and
`after M result` acts on registers and flags. -/
def performModify (i : Instr) (m : MemMode) (result : Byte → State → Byte) (after : Byte → Byte → State → State)
    (s : State) : Result :=
  let ea := effAddr m s
  let v := readByte s ea
  let r := result v s
  perform i (crossed m s) (fun s => after v r (writeByte s ea r)) s

end Sys2Proof.Machine
end

