-- ==== Sys2Proof/Machine/Arith.lean ====
section
/-! DEFINITION. Arithmetic, logic, compare, increment and decrement (42_arith_logic.md R147 to R166). -/

namespace Sys2Proof.Machine

/-! ## Shared effects -/

/-- `(r, c, v) <- Add8(A, m, P.C); A <- r; P.C <- c; P.V <- v; SetNZ(A)`, the effect of ADC and, on the complemented operand, of SBC
(R150, R151). -/
def addToA (m : Byte) (s : State) : State :=
  let t := add8 s.a m (s.flag .c)
  (((s.setA t.r).setFlag .c t.carry).setFlag .v t.overflow).setNZ t.r

/-- `A <- v; SetNZ(A)`. -/
def setAResult (v : Byte) (s : State) : State := (s.setA v).setNZ v

/-- `Compare(r, m)` (R152): flags only. -/
def compareFlags (r m : Byte) (s : State) : State := s.setP (comparedP s.p r m)

/-! ## Add, subtract, compare -/

/-- ADC (R150). -/
def execAdc (o : AluOperand) (s : State) : Result := performRead (.adc o) o.toRead addToA s

/-- SBC, official opcodes (R151). -/
def execSbc (o : AluOperand) (s : State) : Result :=
  performRead (.sbc o) o.toRead (fun m => addToA (~~~m)) s

/-- CMP (R153): `Compare(A, M)`. -/
def execCmp (o : AluOperand) (s : State) : Result :=
  performRead (.cmp o) o.toRead (fun m s => compareFlags s.a m s) s

/-- CPX (R154): `Compare(X, M)`. -/
def execCpx (o : CpOperand) (s : State) : Result :=
  performRead (.cpx o) o.toRead (fun m s => compareFlags s.x m s) s

/-- CPY (R155): `Compare(Y, M)`. -/
def execCpy (o : CpOperand) (s : State) : Result :=
  performRead (.cpy o) o.toRead (fun m s => compareFlags s.y m s) s

/-! ## Logic -/

/-- AND (R156): `A <- A & M; SetNZ(A)`. -/
def execAnd (o : AluOperand) (s : State) : Result :=
  performRead (.and o) o.toRead (fun m s => setAResult (s.a &&& m) s) s

/-- ORA (R157): `A <- A | M; SetNZ(A)`. -/
def execOra (o : AluOperand) (s : State) : Result :=
  performRead (.ora o) o.toRead (fun m s => setAResult (s.a ||| m) s) s

/-- EOR (R158): `A <- A ^ M; SetNZ(A)`. -/
def execEor (o : AluOperand) (s : State) : Result :=
  performRead (.eor o) o.toRead (fun m s => setAResult (s.a ^^^ m) s) s

/-- BIT (R159): Z of `A & M`, N and V from the operand's bits 7 and 6. -/
def execBit (o : BitOperand) (s : State) : Result :=
  performRead (.bit o) (.mem o.toMem)
    (fun m s => ((s.setFlag .z (s.a &&& m == 0)).setFlag .n (m.getLsbD 7)).setFlag .v (m.getLsbD 6)) s

/-! ## Increment and decrement -/

/-- INC (R160): `v <- u8(M + 1); Write8(EA, v); SetNZ(v)`. -/
def execInc (o : Mem4Operand) (s : State) : Result :=
  performModify (.inc o) o.toMem (fun m _ => m + 1) (fun _ r s => s.setNZ r) s

/-- DEC (R161): `v <- u8(M - 1); Write8(EA, v); SetNZ(v)`. -/
def execDec (o : Mem4Operand) (s : State) : Result :=
  performModify (.dec o) o.toMem (fun m _ => m - 1) (fun _ r s => s.setNZ r) s

/-- INX (R162): `X <- u8(X + 1); SetNZ(X)`. -/
def execInx (s : State) : Result := perform .inx false (fun s => (s.setX (s.x + 1)).setNZ (s.x + 1)) s

/-- INY (R163): `Y <- u8(Y + 1); SetNZ(Y)`. -/
def execIny (s : State) : Result := perform .iny false (fun s => (s.setY (s.y + 1)).setNZ (s.y + 1)) s

/-- DEX (R164): `X <- u8(X - 1); SetNZ(X)`. -/
def execDex (s : State) : Result := perform .dex false (fun s => (s.setX (s.x - 1)).setNZ (s.x - 1)) s

/-- DEY (R165): `Y <- u8(Y - 1); SetNZ(Y)`. -/
def execDey (s : State) : Result := perform .dey false (fun s => (s.setY (s.y - 1)).setNZ (s.y - 1)) s

end Sys2Proof.Machine
end

