-- ==== Sys2Proof/Machine/Control.lean ====
section
/-! DEFINITION. Jumps, calls, returns, branches and BRK (44_control_flow.md R171 to R187). -/

namespace Sys2Proof.Machine

/-- JMP (R171): `PC <- EA`. -/
def execJmp (o : JmpOperand) (s : State) : Result := performJump (.jmp o) 0 (fun s => s.setPc (o.target s)) s

/-- JSR (R172): push `u16(PC0 + 2)`, high byte first, then `PC <- EA`. -/
def execJsr (w : Addr) (s : State) : Result := performJump (.jsr w) 0 (fun s => (push16 s (s.pc + 2)).setPc w) s

/-- RTS (R173): pull the return address, low byte first; `PC <- u16((hi : lo) + 1)`. -/
def execRts (s : State) : Result := performJump .rts 0 (fun s => (pull16 s).setPc (pulled16 s + 1)) s

/-- RTI (R174): pull P through LoadP, then PC, without the +1 of RTS. -/
def execRti (s : State) : Result := performJump .rti 0 returnFromException s

/-- BRANCH_EXTRA of a taken branch: 1, and 1 more when the target is in another page than PC0 + 2 (R175, R176). -/
def branchExtra (target : Addr) (s : State) : Nat := 1 + bitNat (pagesDiffer target (s.pc + 2))

/-- `Branch(cond)` (R175): taken, PC is the target and the extra cycles are added; not taken, PC is the next instruction. -/
def performBranch (i : Instr) (cond : Bool) (r : Byte) (s : State) : Result :=
  if cond then performJump i (branchExtra (branchTarget r s) s) (fun s => s.setPc (branchTarget r s)) s
  else perform i false id s

/-- BPL (R177): `Branch(P.N == 0)`. -/
def execBpl (r : Byte) (s : State) : Result := performBranch (.bpl r) (!s.flag .n) r s

/-- BMI (R178): `Branch(P.N == 1)`. -/
def execBmi (r : Byte) (s : State) : Result := performBranch (.bmi r) (s.flag .n) r s

/-- BVC (R179): `Branch(P.V == 0)`. -/
def execBvc (r : Byte) (s : State) : Result := performBranch (.bvc r) (!s.flag .v) r s

/-- BVS (R180): `Branch(P.V == 1)`. -/
def execBvs (r : Byte) (s : State) : Result := performBranch (.bvs r) (s.flag .v) r s

/-- BCC (R181): `Branch(P.C == 0)`. -/
def execBcc (r : Byte) (s : State) : Result := performBranch (.bcc r) (!s.flag .c) r s

/-- BCS (R182): `Branch(P.C == 1)`. -/
def execBcs (r : Byte) (s : State) : Result := performBranch (.bcs r) (s.flag .c) r s

/-- BNE (R183): `Branch(P.Z == 0)`. -/
def execBne (r : Byte) (s : State) : Result := performBranch (.bne r) (!s.flag .z) r s

/-- BEQ (R184): `Branch(P.Z == 1)`. -/
def execBeq (r : Byte) (s : State) : Result := performBranch (.beq r) (s.flag .z) r s

/-- BRK (R185). Under Halt step 4 does nothing, PC advances by the length 1 and 7 cycles are added; the halt itself is step 8 of
10_state.md R47, after the hook (haltCheck in Machine/Hosting.lean; DEDUCED, safe, notes/assumptions/13.md). Under Trap it takes the exception with the return address
PC0 + 2, B = 1 in the pushed P and the vector 0xFFFE. -/
def execBrk (s : State) : Result :=
  match s.params.brkPolicy with
  | .halt => perform .brk false id s
  | .trap => performJump .brk 0 (fun s => takeException (s.pc + 2) true irqVector s) s

end Sys2Proof.Machine
end

