-- ==== Sys2Proof/Machine/FlagOps.lean ====
section
/-! DEFINITION. The flag instructions and the official NOP (45_flags_nop.md R188 to R195). -/

namespace Sys2Proof.Machine

/-- CLC (R188). -/
def execClc (s : State) : Result := perform .clc false (fun s => s.setFlag .c false) s

/-- SEC (R189). -/
def execSec (s : State) : Result := perform .sec false (fun s => s.setFlag .c true) s

/-- CLI (R190); the next interrupt check uses the new I (70_reset_and_hazards.md R351). -/
def execCli (s : State) : Result := perform .cli false (fun s => s.setFlag .i false) s

/-- SEI (R191). -/
def execSei (s : State) : Result := perform .sei false (fun s => s.setFlag .i true) s

/-- CLD (R192). -/
def execCld (s : State) : Result := perform .cld false (fun s => s.setFlag .d false) s

/-- SED (R193). -/
def execSed (s : State) : Result := perform .sed false (fun s => s.setFlag .d true) s

/-- CLV (R194). -/
def execClv (s : State) : Result := perform .clv false (fun s => s.setFlag .v false) s

/-- NOP, official opcode (R195). -/
def execNop (s : State) : Result := perform .nop false id s

end Sys2Proof.Machine
end

