-- ==== Sys2Proof/Machine/Illegal.lean ====
section
/-! DEFINITION. The tier-3 opcodes (30_encoding.md R113): each raises IllegalOpcode, whatever the parameters
(60_exceptions.md R301). The operand of a form is for a disassembler only and no meaning uses it. -/

namespace Sys2Proof.Machine

/-- JAM, with its opcode byte. -/
def execJam (op : Byte) (s : State) : Result := .next (raiseIllegalOpcode op s)

/-- ANE, 0x8B. -/
def execAne (s : State) : Result := .next (raiseIllegalOpcode 0x8B s)

/-- LXA, 0xAB. -/
def execLxa (s : State) : Result := .next (raiseIllegalOpcode 0xAB s)

/-- SHA, 0x93 (zp),Y and 0x9F abs,Y. -/
def execSha (o : ShaOperand) (s : State) : Result := .next (raiseIllegalOpcode (Instr.sha o).opcode s)

/-- SHX, 0x9E. -/
def execShx (s : State) : Result := .next (raiseIllegalOpcode 0x9E s)

/-- SHY, 0x9C. -/
def execShy (s : State) : Result := .next (raiseIllegalOpcode 0x9C s)

/-- TAS, 0x9B. -/
def execTas (s : State) : Result := .next (raiseIllegalOpcode 0x9B s)

/-- LAS, 0xBB. -/
def execLas (s : State) : Result := .next (raiseIllegalOpcode 0xBB s)

end Sys2Proof.Machine
end

