-- ==== Sys2Proof/Machine/LoadStore.lean ====
section
/-! DEFINITION. Loads, stores and register transfers (40_load_store_transfer.md R131 to R142). -/

namespace Sys2Proof.Machine

/-- LDA (R131): `A <- M; SetNZ(A)`. -/
def execLda (o : AluOperand) (s : State) : Result :=
  performRead (.lda o) o.toRead (fun m s => (s.setA m).setNZ m) s

/-- LDX (R132): `X <- M; SetNZ(X)`. -/
def execLdx (o : LdxOperand) (s : State) : Result :=
  performRead (.ldx o) o.toRead (fun m s => (s.setX m).setNZ m) s

/-- LDY (R133): `Y <- M; SetNZ(Y)`. -/
def execLdy (o : LdyOperand) (s : State) : Result :=
  performRead (.ldy o) o.toRead (fun m s => (s.setY m).setNZ m) s

/-- STA (R134): `Write8(EA, A)`. -/
def execSta (o : Mem7Operand) (s : State) : Result := performStore (.sta o) o.toMem State.a s

/-- STX (R135): `Write8(EA, X)`. -/
def execStx (o : StxOperand) (s : State) : Result := performStore (.stx o) o.toMem State.x s

/-- STY (R136): `Write8(EA, Y)`. -/
def execSty (o : StyOperand) (s : State) : Result := performStore (.sty o) o.toMem State.y s

/-- TAX (R137): `X <- A; SetNZ(X)`. -/
def execTax (s : State) : Result := perform .tax false (fun s => (s.setX s.a).setNZ s.a) s

/-- TAY (R138): `Y <- A; SetNZ(Y)`. -/
def execTay (s : State) : Result := perform .tay false (fun s => (s.setY s.a).setNZ s.a) s

/-- TXA (R139): `A <- X; SetNZ(A)`. -/
def execTxa (s : State) : Result := perform .txa false (fun s => (s.setA s.x).setNZ s.x) s

/-- TYA (R140): `A <- Y; SetNZ(A)`. -/
def execTya (s : State) : Result := perform .tya false (fun s => (s.setA s.y).setNZ s.y) s

/-- TSX (R141): `X <- SP; SetNZ(X)`. -/
def execTsx (s : State) : Result := perform .tsx false (fun s => (s.setX s.sp).setNZ s.sp) s

/-- TXS (R142): `SP <- X`; no flag is written. -/
def execTxs (s : State) : Result := perform .txs false (fun s => s.setSp s.x) s

end Sys2Proof.Machine
end

