-- ==== Sys2Proof/Machine/Shift.lean ====
section
/-! DEFINITION. Shifts and rotates (43_shift_rotate.md R167 to R170). -/

namespace Sys2Proof.Machine

/-- A shift or rotate `f` of the operand and P.C: the Accumulator form stores to A, the memory forms read-modify-write EA; C gets
the bit moved out, N and Z are of the result. -/
def performShift (i : Instr) (o : ShiftOperand) (f : Byte → Bool → ShiftResult) (s : State) : Result :=
  match o.toMem with
  | none =>
    perform i false (fun s =>
      let t := f s.a (s.flag .c)
      ((s.setA t.r).setFlag .c t.carry).setNZ t.r) s
  | some m =>
    performModify i m (fun v s => (f v (s.flag .c)).r)
      (fun v r s => (s.setFlag .c (f v (s.flag .c)).carry).setNZ r) s

/-- ASL (R167). -/
def execAsl (o : ShiftOperand) (s : State) : Result := performShift (.asl o) o (fun v _ => shiftLeft v) s

/-- LSR (R168). -/
def execLsr (o : ShiftOperand) (s : State) : Result := performShift (.lsr o) o (fun v _ => shiftRight v) s

/-- ROL (R169). -/
def execRol (o : ShiftOperand) (s : State) : Result := performShift (.rol o) o rotateLeft s

/-- ROR (R170). -/
def execRor (o : ShiftOperand) (s : State) : Result := performShift (.ror o) o rotateRight s

end Sys2Proof.Machine
end

