-- ==== Sys2Proof/Machine/Stack.lean ====
section
/-! DEFINITION. Stack instructions (41_stack.md R143 to R146). -/

namespace Sys2Proof.Machine

/-- PHA (R143): `Push8(A)`. -/
def execPha (s : State) : Result := perform .pha false (fun s => push8 s s.a) s

/-- PHP (R144): `Push8(PushImage(1))`. -/
def execPhp (s : State) : Result := perform .php false (fun s => push8 s (pushImage s.p true)) s

/-- PLA (R145): `A <- Pull8(); SetNZ(A)`. -/
def execPla (s : State) : Result :=
  perform .pla false (fun s => ((pull8 s).setA (pulled8 s)).setNZ (pulled8 s)) s

/-- PLP (R146): `LoadP(Pull8())`. -/
def execPlp (s : State) : Result := perform .plp false (fun s => (pull8 s).setP (loadP (pulled8 s))) s

end Sys2Proof.Machine
end

