-- ==== Sys2Proof/Machine/Unofficial.lean ====
section
/-! DEFINITION. The unofficial instructions of tier 2 (46_unofficial.md R196 to R210). perform raises IllegalOpcode for each of
them when ADMIT_UNOFFICIAL is false (R196). -/

namespace Sys2Proof.Machine

/-- NOP, unofficial forms (R197): the operand's read is discarded, so only its page crossing counts (DEDUCED, safe,
notes/assumptions/11.md). -/
def execNopUnofficial (op : Byte) (o : NopOperand) (s : State) : Result :=
  match o.toRead with
  | none => perform (.nopUnofficial op o) false id s
  | some r => performRead (.nopUnofficial op o) r (fun _ s => s) s

/-- LAX (R198): `A <- M; X <- M; SetNZ(M)`. -/
def execLax (o : LaxOperand) (s : State) : Result :=
  performRead (.lax o) (.mem o.toMem) (fun m s => ((s.setA m).setX m).setNZ m) s

/-- SAX (R199): `Write8(EA, A & X)`. -/
def execSax (o : SaxOperand) (s : State) : Result :=
  performStore (.sax o) o.toMem (fun s => s.a &&& s.x) s

/-- SBC, opcode 0xEB (R200): the effect of SBC immediate. -/
def execSbcUnofficial (b : Byte) (s : State) : Result :=
  performRead (.sbcUnofficial b) (.imm b) (fun m => addToA (~~~m)) s

/-- SLO (R201): shift the cell left, then OR it into A. -/
def execSlo (o : Mem7Operand) (s : State) : Result :=
  performModify (.slo o) o.toMem (fun m _ => (shiftLeft m).r)
    (fun m r s => setAResult (s.a ||| r) (s.setFlag .c (shiftLeft m).carry)) s

/-- RLA (R202): rotate the cell left through C, then AND it into A. -/
def execRla (o : Mem7Operand) (s : State) : Result :=
  performModify (.rla o) o.toMem (fun m s => (rotateLeft m (s.flag .c)).r)
    (fun m r s => setAResult (s.a &&& r) (s.setFlag .c (rotateLeft m (s.flag .c)).carry)) s

/-- SRE (R203): shift the cell right, then EOR it into A. -/
def execSre (o : Mem7Operand) (s : State) : Result :=
  performModify (.sre o) o.toMem (fun m _ => (shiftRight m).r)
    (fun m r s => setAResult (s.a ^^^ r) (s.setFlag .c (shiftRight m).carry)) s

/-- RRA (R204): rotate the cell right through C, then add it to A with the carry out of the rotate. -/
def execRra (o : Mem7Operand) (s : State) : Result :=
  performModify (.rra o) o.toMem (fun m s => (rotateRight m (s.flag .c)).r)
    (fun m r s => addToA r (s.setFlag .c (rotateRight m (s.flag .c)).carry)) s

/-- DCP (R205): decrement the cell, then `Compare(A, r)`. -/
def execDcp (o : Mem7Operand) (s : State) : Result :=
  performModify (.dcp o) o.toMem (fun m _ => m - 1) (fun _ r s => compareFlags s.a r s) s

/-- ISB (R206): increment the cell, then subtract it from A with borrow. -/
def execIsb (o : Mem7Operand) (s : State) : Result :=
  performModify (.isb o) o.toMem (fun m _ => m + 1) (fun _ r s => addToA (~~~r) s) s

/-- ANC (R207): `A <- A & M; SetNZ(A); P.C <- A[7]`. -/
def execAnc (op b : Byte) (s : State) : Result :=
  performRead (.anc op b) (.imm b)
    (fun m s => (setAResult (s.a &&& m) s).setFlag .c ((s.a &&& m).getLsbD 7)) s

/-- ALR (R208): `t <- A & M; P.C <- t[0]; A <- t >> 1; SetNZ(A)`. -/
def execAlr (b : Byte) (s : State) : Result :=
  performRead (.alr b) (.imm b)
    (fun m s =>
      let t := shiftRight (s.a &&& m)
      setAResult t.r (s.setFlag .c t.carry)) s

/-- ARR (R209): `t <- A & M; A <- (t >> 1) | (P.C << 7); SetNZ(A); P.C <- A[6]; P.V <- A[6] ^ A[5]`. -/
def execArr (b : Byte) (s : State) : Result :=
  performRead (.arr b) (.imm b)
    (fun m s =>
      let r := (rotateRight (s.a &&& m) (s.flag .c)).r
      ((setAResult r s).setFlag .c (r.getLsbD 6)).setFlag .v (r.getLsbD 6 ^^ r.getLsbD 5)) s

/-- SBX (R210): `t <- A & X; P.C <- (t >= M) ? 1 : 0; X <- u8(t - M); SetNZ(X)`. -/
def execSbx (b : Byte) (s : State) : Result :=
  performRead (.sbx b) (.imm b) (fun m s => (compareFlags (s.a &&& s.x) m s).setX ((s.a &&& s.x) - m)) s

end Sys2Proof.Machine
end

