-- ==== Sys2Proof/Machine/Hosting.lean ====
section
/-! DEFINITION. The host and the platform (60_exceptions.md R303 to R313; 70_reset_and_hazards.md R340, R341): construct, reset, the
hook, stop, reading memory, and the interrupt inputs. Only runHook and haltCheck belong to a step (10_state.md R47 steps 7, 8). -/

namespace Sys2Proof.Machine

/-- The size of a PRG image, or none where no bus is built from it (20_memory.md R66, decision D10). -/
def prgSizeOf (image : List Byte) : Option PrgSize :=
  if image.length = PrgSize.kib16.bytes then some .kib16
  else if image.length = PrgSize.kib32.bytes then some .kib32
  else none

/-- A newly constructed core (10_state.md R46): RUN is Reset, RAM is RAM_INIT. The registers are unspecified there; the model holds
zeros, which no step reads, since reset writes every one of them (DESIGN CHOICE, unsafe,
notes/assumptions/7.md). -/
def constructed (prg : Memory) (size : PrgSize) (ramInit : Memory) (params : Params) : State :=
  { a := 0, x := 0, y := 0, sp := 0, pc := 0, p := 0, cyc := 0, run := .reset, haltReason := .none
    nmiPending := false, irqLevel := false
    ram := ramInit, prg := prg, prgSize := size, hook := [], params := params }

/-- `construct` (60_exceptions.md R313): a core from a PRG image and RAM_INIT as byte strings; none where the image has another
length than 16,384 or 32,768 bytes, or RAM_INIT another than 2,048. -/
def construct (image ramInit : List Byte) (params : Params) : Option State :=
  if ramInit.length = Config.ramBytes then
    (prgSizeOf image).map (fun size => constructed (Memory.ofBytes 0 image) size (Memory.ofBytes 0 ramInit) params)
  else none

/-- The reset sequence (70_reset_and_hazards.md R341): RAM, IRQ_LEVEL, the image and the parameters stay; nothing is pushed and no
hook is called. -/
def hostReset (s : State) : State :=
  { s with
    a := 0x00, x := 0x00, y := 0x00, sp := s.params.spReset, p := 0x24, pc := readWord s resetVector
    cyc := s.params.resetCycles, nmiPending := false, haltReason := .none, run := .running }

/-- A host stop: `halt(HostStop)` at a boundary (60_exceptions.md R312). -/
def hostStop (s : State) : State := halt .hostStop s

/-- A host read of memory is the bus read (20_memory.md R89). -/
def hostRead (s : State) (addr : Addr) : Byte := readByte s addr

/-- The writes of one hook call, in order, through the bus (60_exceptions.md R311). -/
def applyWrites : List HostWrite → State → State
  | [], s => s
  | (addr, v) :: ws, s => applyWrites ws (writeByte s addr v)

/-- The hook, step 7 (10_state.md R47, 60_exceptions.md R311): the writes of the next hook call, which is then past. -/
def runHook (s : State) : State :=
  match s.hook with
  | [] => s
  | ws :: later => applyWrites ws (s.setHook later)

/-- Step 8 (10_state.md R47): `if OPC = 0x00 and BRK_POLICY = Halt: halt(Break(PC0))`. -/
def haltCheck (op : Byte) (pc0 : Addr) (s : State) : State :=
  if op = 0x00 ∧ s.params.brkPolicy = .halt then halt (.brk pc0) s else s

/-- The platform requests an NMI between steps (60_exceptions.md R304); a second request before the first is taken merges. -/
def requestNmi (s : State) : State := s.setNmiPending true

/-- The platform drives the IRQ level between steps (R304). -/
def driveIrq (on : Bool) (s : State) : State := s.setIrqLevel on

end Sys2Proof.Machine
end

