-- ==== Sys2Proof/Machine/Fetch.lean ====
section
/-! DEFINITION. Fetching an instruction (10_state.md R47 steps 1 and 3, 30_encoding.md R93), what follows it in the step (R47 steps 7
and 8), and placing an instruction's bytes where the next step fetches. -/

namespace Sys2Proof.Machine

/-- The opcode byte and the two bytes after it, read through the bus with PC wrapping at 0xFFFF (10_state.md R28, 30_encoding.md
R93). The decoder uses as many as the length says; an unused read has no effect (20_memory.md R73;
DEDUCED, safe, notes/assumptions/8.md). -/
def fetchBytes (s : State) : List Byte := [readByte s s.pc, readByte s (s.pc + 1), readByte s (s.pc + 2)]

/-- The instruction at PC. -/
def fetched (s : State) : Instr := decodeBytes (readByte s s.pc) (readByte s (s.pc + 1)) (readByte s (s.pc + 2))

/-- Steps 7 and 8 after an instruction `i` that ran at `s0` and left `s1`: the hook, then the halt check; neither runs after
IllegalOpcode (R47 step 2, 60_exceptions.md R301, R311). -/
def afterExec (i : Instr) (s0 s1 : State) : State :=
  if admitted s0 i.opcode then haltCheck i.opcode s0.pc (runHook s1) else s1

/-! ## Placing an instruction -/

/-- A byte put into the RAM cell or the image byte that the bus reads at an address; nothing can be put elsewhere. It stands for
loading a program, not for a bus write. -/
def placeByte (s : State) (addr : Addr) (v : Byte) : State :=
  match region s.prgSize addr with
  | .ram cell => s.setRam (s.ram.set cell v)
  | .device _ => s
  | .unassigned => s
  | .prg offset => s.setPrg (s.prg.set offset v)

/-- Bytes put at consecutive addresses. -/
def placeBytes : List Byte → Addr → State → State
  | [], _, s => s
  | v :: vs, addr, s => placeBytes vs (addr + 1) (placeByte s addr v)

/-- An address that holds a byte of RAM or of the image. -/
def placeable (addr : Addr) : Bool := decide (addr.toNat ≤ 0x1FFF) || decide (0x8000 ≤ addr.toNat)

/-- The state whose next step fetches these three bytes: RUN is Running, no interrupt is requested, PC is kept where RAM or the
image holds all three bytes and is 0x0000 otherwise, and the bytes are put there (DESIGN CHOICE, safe,
notes/assumptions/12.md). -/
def placeInstr (bytes : List Byte) (s : State) : State :=
  let pc := if placeable s.pc && placeable (s.pc + 1) && placeable (s.pc + 2) then s.pc else 0x0000
  placeBytes bytes pc ((((s.setRun .running).setNmiPending false).setIrqLevel false).setPc pc)

end Sys2Proof.Machine
end

