-- ==== Sys2Proof/Machine/Step.lean ====
section
/-! DEFINITION. One step (10_state.md R47), and the state in which the next step runs a given instruction. -/

namespace Sys2Proof.Machine

/-- One step: the interrupt check, the fetch, the instruction, the hook and the halt check; stuck unless RUN is Running (R47). -/
def step (s : State) : Host.Outcome State Fault Refusal :=
  if s.run = .running then
    let s0 := interruptCheck s
    match exec (fetched s0) s0 with
    | .next s1 => .next (afterExec (fetched s0) s0 s1)
    | .fault r => .fault r
    | .refused r => .refused r
  else .fault (.notRunning s.run)

/-- The state with an instruction, numbered as spec/opcode_table.json numbers it, stored where the next step fetches. -/
def State.withFetchWord (s : State) (nbits w : Nat) : State := placeInstr (tableBytes nbits w) s

end Sys2Proof.Machine
end

