-- ==== Sys2Proof/Machine/Run.lean ====
section
/-! DEFINITION. The run loop (10_state.md R48): the host's run-with-hook. -/

namespace Sys2Proof.Machine

/-- At most `fuel` steps of run-with-hook: it repeats step while RUN is Running and returns when RUN is Halted (R48, R347). -/
def runWithHook : Nat → State → State
  | 0, s => s
  | fuel + 1, s =>
    match step s with
    | .next t => runWithHook fuel t
    | .fault _ => s
    | .refused _ => s

end Sys2Proof.Machine
end

