-- ==== Sys2Proof/Safety.lean ====
section
/-! DEFINITION. The invariant of a core that has been reset, what a safe run is, and the terms the statements are written in. -/

namespace Sys2Proof.Machine

/-- What holds of a core from its reset on, at every instruction boundary. -/
structure State.Inv (s : State) : Prop where
  /-- RAM is canonical and holds no cell beyond its 2,048 bytes (10_state.md R56). -/
  ramWf : s.ram.wf Config.ramBytes = true
  /-- The image is canonical and holds no byte beyond its length (20_memory.md R66). -/
  prgWf : s.prg.wf s.prgSize.bytes = true
  /-- Bit 5 of P reads as 1 (10_state.md R44). -/
  bit5Set : s.flag .u = true
  /-- The stored B is 0 (10_state.md R40). -/
  breakClear : s.flag .b = false
  /-- At a boundary of a reset core RUN is Running or Halted, and HALT_REASON is none exactly while it runs (R46, R50). -/
  runLegal : (s.run = .running ∧ s.haltReason = .none) ∨ (s.run = .halted ∧ s.haltReason ≠ .none)

/-- The run has not ended in the machine's one fault (60_exceptions.md R300, R301). -/
def State.Safe (s : State) : Prop := ∀ op address, s.haltReason ≠ .illegalOpcode op address

/-! ## Terms of the statements -/

/-- Two bus addresses name the same physical RAM byte (20_memory.md R63). -/
def RamAlias (a b : Addr) : Prop :=
  a.toNat < 0x2000 ∧ b.toNat < 0x2000 ∧ a.toNat % 0x800 = b.toNat % 0x800

/-- Every byte of memory reads in `t` as in `s`. -/
def SameMemory (s t : State) : Prop := ∀ b, readByte t b = readByte s b

/-- From `s` to `t` the byte `v` was stored at `ea` and nothing else was: every alias of `ea` in RAM reads `v`, every other address
reads as before; a store outside RAM changes nothing. -/
def Stored (ea : Addr) (v : Byte) (s t : State) : Prop :=
  ∀ b, (RamAlias ea b → readByte t b = v) ∧ (¬ RamAlias ea b → readByte t b = readByte s b)

/-- `t`'s P is `s`'s with exactly the listed flags written; of two entries for one flag the first counts. -/
def FlagsAfter (s t : State) (written : List (Flag × Bool)) : Prop :=
  ∀ f, t.flag f = (written.lookup f).getD (s.flag f)

/-- What no instruction's own effect changes: the run state, the interrupt inputs, the image, the host's coming writes and the
parameters (the last two are the model's own fields: DESIGN CHOICE, safe, notes/assumptions/4.md and 1.md). -/
def SameSurroundings (s t : State) : Prop :=
  t.run = s.run ∧ t.haltReason = s.haltReason ∧ t.nmiPending = s.nmiPending ∧ t.irqLevel = s.irqLevel ∧
  t.prg = s.prg ∧ t.prgSize = s.prgSize ∧ t.hook = s.hook ∧ t.params = s.params

/-- A, X, Y and SP are as before. -/
def SameRegisters (s t : State) : Prop := t.a = s.a ∧ t.x = s.x ∧ t.y = s.y ∧ t.sp = s.sp

/-- The N and Z entries `SetNZ(v)` writes (10_state.md R41). -/
def nzOf (v : Byte) : List (Flag × Bool) := [(.n, decide (128 ≤ v.toNat)), (.z, decide (v.toNat = 0))]

/-- PC and CYC after an instruction that does not write PC: past its bytes, with the table's base cycles and the penalty where the
entry has it and a page was crossed (10_state.md R47 steps 5 and 6). -/
def Advanced (i : Instr) (crossed : Bool) (s t : State) : Prop :=
  t.pc = s.pc + BitVec.ofNat 16 i.encode.length ∧
  t.cyc = s.cyc + (entry i.opcode).cycles.getD 0 + (if (entry i.opcode).pageCross ∧ crossed then 1 else 0)

/-- The instruction completes from `s` in a next state of which `post` holds. -/
def Completes (i : Instr) (s : State) (post : State → Prop) : Prop := ∃ t, exec i s = .next t ∧ post t

end Sys2Proof.Machine
end

