-- ==== Sys2Proof/Certificates/Slice0/Obligations.lean ====
section
/-! DEFINITION. The statements for the provers. Each docstring names the rules it rests on. An instruction's result is stated as its
completion: exec answers a next state of which the rule's values hold, with the frame: FlagsAfter says every flag of P, Stored and
SameMemory every byte of memory, SameRegisters and the equations every register, SameSurroundings the rest, Advanced PC and CYC. -/

open Sys2Proof Sys2Proof.Machine

/-! ## Encoding -/

/-- R91, R94, R123: decoding the bytes of a well-formed instruction gives it back with the bytes after it, for every operand. -/
def Obligations.DecodeEncodeRoundTrip : Prop :=
  ∀ i : Instr, i.wellFormed = true → ∀ rest, decode (i.encode ++ rest) = .ok (i, rest)

/-- R91, R92, R123: what the decoder reads is a well-formed instruction whose own bytes are exactly the bytes read, so each byte
string has one meaning. -/
def Obligations.DecodedBytesReencode : Prop :=
  ∀ (bs : List Byte) (i : Instr) (rest : List Byte),
    decode bs = .ok (i, rest) → i.wellFormed = true ∧ bs = i.encode ++ rest

/-- R92, R123, with R96: an opcode byte alone fixes mnemonic, mode and length as its table entry says, the length of every mode is
fixed, and the decoder refuses a byte string only where it ends before the instruction does. -/
def Obligations.DecodeFollowsOpcodeTable : Prop :=
  opTable.length = 256 ∧
  (∀ op a b : Byte,
    (decodeBytes op a b).opcode = op ∧ (decodeBytes op a b).mnemonic = (entry op).mnemonic ∧
    (decodeBytes op a b).mode = (entry op).mode ∧ (decodeBytes op a b).encode.length = (entry op).length ∧
    (entry op).length =
      (match (entry op).mode with
       | .implied | .accumulator => 1
       | .absolute | .absoluteX | .absoluteY | .indirect => 3
       | .immediate | .zeroPage | .zeroPageX | .zeroPageY | .indexedIndirect | .indirectIndexed | .relative => 2)) ∧
  (∀ (op : Byte) (bs : List Byte),
    (∃ e, decode (op :: bs) = .error e) ↔ bs.length + 1 < (entry op).length)

/-- Words written out from the Encoding lines of the rules decode to the instruction they stand for, one or more of each family. -/
def Obligations.EncodingSamples : Prop :=
  decode [0xA9, 0x80] = .ok (.lda (.imm 0x80), []) ∧ decode [0xB6, 0xFF] = .ok (.ldx (.zpY 0xFF), []) ∧
  decode [0x8D, 0x34, 0x12] = .ok (.sta (.abs 0x1234), []) ∧ decode [0x9A] = .ok (.txs, []) ∧
  decode [0x08] = .ok (.php, []) ∧ decode [0x71, 0x20] = .ok (.adc (.indY 0x20), []) ∧
  decode [0xEB, 0xF0] = .ok (.sbcUnofficial 0xF0, []) ∧ decode [0x2C, 0x00, 0x20] = .ok (.bit (.abs 0x2000), []) ∧
  decode [0x6A] = .ok (.ror .acc, []) ∧ decode [0x6C, 0xFF, 0x02] = .ok (.jmp (.ind 0x02FF), []) ∧
  decode [0xD0, 0xFB] = .ok (.bne 0xFB, []) ∧ decode [0x00] = .ok (.brk, []) ∧ decode [0xF8] = .ok (.sed, []) ∧
  decode [0x1C, 0x34, 0x12] = .ok (.nopUnofficial 0x1C (.absX 0x1234), []) ∧
  decode [0x63, 0x10] = .ok (.rra (.indX 0x10), []) ∧ decode [0xCB, 0x05] = .ok (.sbx 0x05, []) ∧
  decode [0xF2] = .ok (.jam 0xF2, []) ∧ decode [0x9F, 0x00, 0x02] = .ok (.sha (.absY 0x0200), [])

/-- R117: the page-cross flag is set exactly for the read-only instructions in the absolute-indexed modes and Indirect-Indexed. -/
def Obligations.PageCrossFlagExactlyForIndexedReads : Prop :=
  ∀ op : Byte, (entry op).pageCross = true ↔
    (entry op).tier ≠ .unimplemented ∧
    ((entry op).mode = .absoluteX ∨ (entry op).mode = .absoluteY ∨ (entry op).mode = .indirectIndexed) ∧
    (entry op).mnemonic ∈ ([.adc, .and, .cmp, .eor, .lda, .ora, .sbc, .ldx, .ldy, .lax, .nop] : List Mnemonic)

/-! ## Effective addresses -/

/-- R101, R102, R104, R105, R106, R107: the effective address of each memory mode and the page crossing, as numbers. -/
def Obligations.EffectiveAddresses : Prop :=
  ∀ (s : State) (z : Byte) (w : Addr),
    let rd := fun n : Nat => (readByte s (BitVec.ofNat 16 n)).toNat
    let ptr := fun z : Nat => 256 * rd ((z + 1) % 256) + rd z
    (effAddr (.zp z) s).toNat = z.toNat ∧
    (effAddr (.zpX z) s).toNat = (z.toNat + s.x.toNat) % 256 ∧
    (effAddr (.zpY z) s).toNat = (z.toNat + s.y.toNat) % 256 ∧
    (effAddr (.abs w) s).toNat = w.toNat ∧
    (effAddr (.absX w) s).toNat = (w.toNat + s.x.toNat) % 65536 ∧
    (effAddr (.absY w) s).toNat = (w.toNat + s.y.toNat) % 65536 ∧
    (effAddr (.indX z) s).toNat = ptr ((z.toNat + s.x.toNat) % 256) ∧
    (effAddr (.indY z) s).toNat = (ptr z.toNat + s.y.toNat) % 65536 ∧
    (crossed (.absX w) s = true ↔ w.toNat / 256 ≠ (w.toNat + s.x.toNat) % 65536 / 256) ∧
    (crossed (.absY w) s = true ↔ w.toNat / 256 ≠ (w.toNat + s.y.toNat) % 65536 / 256) ∧
    (crossed (.indY z) s = true ↔ ptr z.toNat / 256 ≠ (ptr z.toNat + s.y.toNat) % 65536 / 256) ∧
    crossed (.zp z) s = false ∧ crossed (.zpX z) s = false ∧ crossed (.zpY z) s = false ∧
    crossed (.abs w) s = false ∧ crossed (.indX z) s = false

/-! ## The bus -/

/-- R63, R62: a write in RAM through any alias is seen through every alias and changes no other byte of the address space. -/
def Obligations.RamWritesReachEveryAlias : Prop :=
  ∀ (s : State) (a b : Addr) (v : Byte),
    (RamAlias a b → readByte (writeByte s a v) b = v) ∧
    (¬ RamAlias a b → readByte (writeByte s a v) b = readByte s b)

/-- R64, R65, R67: a write outside RAM is dropped and changes no state; the device window and 0x4000 to 0x7FFF read 0. -/
def Obligations.DroppedWritesAndStubReads : Prop :=
  ∀ (s : State) (a : Addr) (v : Byte),
    (0x2000 ≤ a.toNat → writeByte s a v = s) ∧
    (0x2000 ≤ a.toNat → a.toNat ≤ 0x7FFF → readByte s a = 0)

/-- R66: a 16 KiB image fills 0x8000 to 0xBFFF and is mirrored at 0xC000; a 32 KiB image is linear. -/
def Obligations.PrgWindow : Prop :=
  ∀ (s : State) (k : Nat),
    (s.prgSize = .kib16 → k < 0x4000 →
      readByte s (BitVec.ofNat 16 (0x8000 + k)) = s.prg.get k ∧
      readByte s (BitVec.ofNat 16 (0xC000 + k)) = s.prg.get k) ∧
    (s.prgSize = .kib32 → k < 0x8000 → readByte s (BitVec.ofNat 16 (0x8000 + k)) = s.prg.get k)

/-- R68: Read16 is little-endian and wraps from 0xFFFF to 0x0000. -/
def Obligations.WordReadLittleEndianWraps : Prop :=
  ∀ (s : State) (a : Addr),
    (readWord s a).toNat = 256 * (readByte s (BitVec.ofNat 16 ((a.toNat + 1) % 65536))).toNat + (readByte s a).toNat

/-! ## The stack -/

/-- R31, R32, R33: a push stores in page 1 at 0x0100 + SP and then decrements SP modulo 256; a pull increments SP modulo 256 and
then reads page 1; nothing else changes. -/
def Obligations.StackWrapsInPageOne : Prop :=
  ∀ (s : State) (v : Byte),
    Stored (BitVec.ofNat 16 (0x100 + s.sp.toNat)) v s (push8 s v) ∧
    (push8 s v).sp.toNat = (s.sp.toNat + 255) % 256 ∧
    { push8 s v with sp := s.sp, ram := s.ram } = s ∧
    pulled8 s = readByte s (BitVec.ofNat 16 (0x100 + (s.sp.toNat + 1) % 256)) ∧
    (pull8 s).sp.toNat = (s.sp.toNat + 1) % 256 ∧
    { pull8 s with sp := s.sp } = s

/-! ## Flags -/

/-- R45: the pushed image has bit 5 set and B as given, LoadP clears B and sets bit 5, and each copies the other six bits. -/
def Obligations.PushImageAndLoadP : Prop :=
  ∀ (p : Byte) (brk : Bool) (f : Flag),
    getFlag (pushImage p brk) f = (match f with | .u => true | .b => brk | g => getFlag p g) ∧
    getFlag (loadP p) f = (match f with | .u => true | .b => false | g => getFlag p g)

/-! ## The ALU -/

/-- R149: the adder's result, carry and signed overflow, as integers. -/
def Obligations.AdderIsExact : Prop :=
  ∀ (a m : Byte) (c : Bool),
    (add8 a m c).r.toNat = (a.toNat + m.toNat + c.toNat) % 256 ∧
    ((add8 a m c).carry = true ↔ 0xFF < a.toNat + m.toNat + c.toNat) ∧
    ((add8 a m c).overflow = true ↔ a.toInt + m.toInt + c.toNat < -128 ∨ 127 < a.toInt + m.toInt + c.toNat)

/-- ADC (R150), every form, from every state. -/
def Obligations.AddWithCarry : Prop :=
  ∀ (o : AluOperand) (s : State),
    let m := operandValue o.toRead s
    let c := (s.flag .c).toNat
    Completes (.adc o) s fun t =>
      t.a.toNat = (s.a.toNat + m.toNat + c) % 256 ∧ t.x = s.x ∧ t.y = s.y ∧ t.sp = s.sp ∧
      FlagsAfter s t (nzOf t.a ++
        [(.c, decide (0xFF < s.a.toNat + m.toNat + c)),
         (.v, decide (s.a.toInt + m.toInt + c < -128 ∨ 127 < s.a.toInt + m.toInt + c))]) ∧
      SameMemory s t ∧ SameSurroundings s t ∧ Advanced (.adc o) (operandCrossed o.toRead s) s t

/-- What SBC leaves when it subtracts `m` (R151): the difference, C iff there is no borrow, V iff the signed difference does not
fit. -/
def Sys2Proof.Machine.Subtracted (m : Byte) (s t : State) : Prop :=
  let d : Int := s.a.toNat - m.toNat - (1 - (s.flag .c).toNat)
  let e : Int := s.a.toInt - m.toInt - (1 - (s.flag .c).toNat)
  (t.a.toNat : Int) = d % 256 ∧ t.x = s.x ∧ t.y = s.y ∧ t.sp = s.sp ∧
  FlagsAfter s t (nzOf t.a ++ [(.c, decide (0 ≤ d)), (.v, decide (e < -128 ∨ 127 < e))])

/-- SBC (R151), every official form, and 0xEB (R200) where tier 2 is admitted. -/
def Obligations.SubtractWithBorrow : Prop :=
  (∀ (o : AluOperand) (s : State), Completes (.sbc o) s fun t =>
    Subtracted (operandValue o.toRead s) s t ∧
    SameMemory s t ∧ SameSurroundings s t ∧ Advanced (.sbc o) (operandCrossed o.toRead s) s t) ∧
  (∀ (b : Byte) (s : State), s.params.admitUnofficial = true → Completes (.sbcUnofficial b) s fun t =>
    Subtracted b s t ∧ SameMemory s t ∧ SameSurroundings s t ∧ Advanced (.sbcUnofficial b) false s t)

/-- What `Compare(r, m)` leaves (R152): C iff r >= m unsigned, Z iff r = m, N the difference's bit 7; no register changes. -/
def Sys2Proof.Machine.Compared (r m : Byte) (s t : State) : Prop :=
  FlagsAfter s t
    [(.c, decide (m.toNat ≤ r.toNat)), (.z, decide (r = m)), (.n, decide (128 ≤ (256 + r.toNat - m.toNat) % 256))]

/-- CMP, CPX, CPY (R152 to R155), every form. -/
def Obligations.CompareInstructions : Prop :=
  ∀ s : State,
    (∀ o : AluOperand, Completes (.cmp o) s fun t =>
      Compared s.a (operandValue o.toRead s) s t ∧ SameRegisters s t ∧ SameMemory s t ∧ SameSurroundings s t ∧
      Advanced (.cmp o) (operandCrossed o.toRead s) s t) ∧
    (∀ o : CpOperand, Completes (.cpx o) s fun t =>
      Compared s.x (operandValue o.toRead s) s t ∧ SameRegisters s t ∧ SameMemory s t ∧ SameSurroundings s t ∧
      Advanced (.cpx o) (operandCrossed o.toRead s) s t) ∧
    (∀ o : CpOperand, Completes (.cpy o) s fun t =>
      Compared s.y (operandValue o.toRead s) s t ∧ SameRegisters s t ∧ SameMemory s t ∧ SameSurroundings s t ∧
      Advanced (.cpy o) (operandCrossed o.toRead s) s t)

/-- AND, ORA, EOR (R156 to R158), every form, bit by bit. -/
def Obligations.LogicInstructions : Prop :=
  ∀ (o : AluOperand) (s : State),
    let m := operandValue o.toRead s
    let done := fun (i : Instr) (op : Bool → Bool → Bool) => Completes i s fun t =>
      (∀ k < 8, t.a.getLsbD k = op (s.a.getLsbD k) (m.getLsbD k)) ∧ t.x = s.x ∧ t.y = s.y ∧ t.sp = s.sp ∧
      FlagsAfter s t (nzOf t.a) ∧ SameMemory s t ∧ SameSurroundings s t ∧
      Advanced i (operandCrossed o.toRead s) s t
    done (.and o) (· && ·) ∧ done (.ora o) (· || ·) ∧ done (.eor o) (· ^^ ·)

/-- BIT (R159), both forms: N and V are the operand's bits 7 and 6, Z says whether no bit of A and M agrees on 1. -/
def Obligations.BitTest : Prop :=
  ∀ (o : BitOperand) (s : State),
    let m := readByte s (effAddr o.toMem s)
    Completes (.bit o) s fun t =>
      FlagsAfter s t
        [(.n, m.getLsbD 7), (.v, m.getLsbD 6), (.z, decide (∀ k : Fin 8, ¬ (s.a.getLsbD k = true ∧ m.getLsbD k = true)))] ∧
      SameRegisters s t ∧ SameMemory s t ∧ SameSurroundings s t ∧ Advanced (.bit o) false s t

/-! ## Loads, stores, transfers -/

/-- LDA, LDX, LDY (R131 to R133), every form. -/
def Obligations.LoadInstructions : Prop :=
  ∀ s : State,
    (∀ o : AluOperand, let m := operandValue o.toRead s
      Completes (.lda o) s fun t =>
        t.a = m ∧ t.x = s.x ∧ t.y = s.y ∧ t.sp = s.sp ∧ FlagsAfter s t (nzOf m) ∧ SameMemory s t ∧ SameSurroundings s t ∧
        Advanced (.lda o) (operandCrossed o.toRead s) s t) ∧
    (∀ o : LdxOperand, let m := operandValue o.toRead s
      Completes (.ldx o) s fun t =>
        t.x = m ∧ t.a = s.a ∧ t.y = s.y ∧ t.sp = s.sp ∧ FlagsAfter s t (nzOf m) ∧ SameMemory s t ∧ SameSurroundings s t ∧
        Advanced (.ldx o) (operandCrossed o.toRead s) s t) ∧
    (∀ o : LdyOperand, let m := operandValue o.toRead s
      Completes (.ldy o) s fun t =>
        t.y = m ∧ t.a = s.a ∧ t.x = s.x ∧ t.sp = s.sp ∧ FlagsAfter s t (nzOf m) ∧ SameMemory s t ∧ SameSurroundings s t ∧
        Advanced (.ldy o) (operandCrossed o.toRead s) s t)

/-- STA, STX, STY (R134 to R136), every form, in RAM or outside it, and SAX (R199) where tier 2 is admitted. -/
def Obligations.StoreInstructions : Prop :=
  ∀ s : State,
    let done := fun (i : Instr) (m : MemMode) (v : Byte) => Completes i s fun t =>
      Stored (effAddr m s) v s t ∧ SameRegisters s t ∧ t.p = s.p ∧ SameSurroundings s t ∧ Advanced i (crossed m s) s t
    (∀ o : Mem7Operand, done (.sta o) o.toMem s.a) ∧ (∀ o : StxOperand, done (.stx o) o.toMem s.x) ∧
    (∀ o : StyOperand, done (.sty o) o.toMem s.y) ∧
    (∀ o : SaxOperand, s.params.admitUnofficial = true → done (.sax o) o.toMem (s.a &&& s.x))

/-- TAX, TAY, TXA, TYA, TSX, TXS (R137 to R142). -/
def Obligations.TransferInstructions : Prop :=
  ∀ s : State,
    let done := fun (i : Instr) (a x y sp : Byte) (flags : List (Flag × Bool)) => Completes i s fun t =>
      t.a = a ∧ t.x = x ∧ t.y = y ∧ t.sp = sp ∧ FlagsAfter s t flags ∧ SameMemory s t ∧ SameSurroundings s t ∧
      Advanced i false s t
    done .tax s.a s.a s.y s.sp (nzOf s.a) ∧ done .tay s.a s.x s.a s.sp (nzOf s.a) ∧
    done .txa s.x s.x s.y s.sp (nzOf s.x) ∧ done .tya s.y s.x s.y s.sp (nzOf s.y) ∧
    done .tsx s.a s.sp s.y s.sp (nzOf s.sp) ∧ done .txs s.a s.x s.y s.x []

/-- PHA, PHP, PLA, PLP (R143 to R146), at every SP. -/
def Obligations.StackInstructions : Prop :=
  ∀ s : State,
    let slot := BitVec.ofNat 16 (0x100 + s.sp.toNat)
    let top := readByte s (BitVec.ofNat 16 (0x100 + (s.sp.toNat + 1) % 256))
    (Completes .pha s fun t =>
      Stored slot s.a s t ∧ t.sp = s.sp - 1 ∧ t.a = s.a ∧ t.x = s.x ∧ t.y = s.y ∧ t.p = s.p ∧
      SameSurroundings s t ∧ Advanced .pha false s t) ∧
    (Completes .php s fun t =>
      Stored slot (s.p ||| 0x30) s t ∧ t.sp = s.sp - 1 ∧ t.a = s.a ∧ t.x = s.x ∧ t.y = s.y ∧ t.p = s.p ∧
      SameSurroundings s t ∧ Advanced .php false s t) ∧
    (Completes .pla s fun t =>
      t.a = top ∧ t.sp = s.sp + 1 ∧ t.x = s.x ∧ t.y = s.y ∧ FlagsAfter s t (nzOf top) ∧ SameMemory s t ∧
      SameSurroundings s t ∧ Advanced .pla false s t) ∧
    (Completes .plp s fun t =>
      t.sp = s.sp + 1 ∧ t.a = s.a ∧ t.x = s.x ∧ t.y = s.y ∧
      FlagsAfter s t ([(.b, false), (.u, true)] ++
        ([.c, .z, .i, .d, .v, .n] : List Flag).map (fun f => (f, getFlag top f))) ∧ SameMemory s t ∧
      SameSurroundings s t ∧ Advanced .plp false s t)

/-! ## Increment, decrement, shifts -/

/-- INC, DEC (R160, R161), every form, in RAM or outside it, and INX, INY, DEX, DEY (R162 to R165). -/
def Obligations.IncrementDecrement : Prop :=
  ∀ s : State,
    let up := fun v : Byte => BitVec.ofNat 8 ((v.toNat + 1) % 256)
    let down := fun v : Byte => BitVec.ofNat 8 ((v.toNat + 255) % 256)
    let cell := fun (i : Instr) (o : Mem4Operand) (f : Byte → Byte) => Completes i s fun t =>
      let r := f (readByte s (effAddr o.toMem s))
      Stored (effAddr o.toMem s) r s t ∧ FlagsAfter s t (nzOf r) ∧ SameRegisters s t ∧ SameSurroundings s t ∧
      Advanced i false s t
    let reg := fun (i : Instr) (x y r : Byte) => Completes i s fun t =>
      t.x = x ∧ t.y = y ∧ t.a = s.a ∧ t.sp = s.sp ∧ FlagsAfter s t (nzOf r) ∧ SameMemory s t ∧ SameSurroundings s t ∧
      Advanced i false s t
    (∀ o, cell (.inc o) o up) ∧ (∀ o, cell (.dec o) o down) ∧
    reg .inx (up s.x) s.y (up s.x) ∧ reg .iny s.x (up s.y) (up s.y) ∧
    reg .dex (down s.x) s.y (down s.x) ∧ reg .dey s.x (down s.y) (down s.y)

/-- ASL, LSR, ROL, ROR (R167 to R170), the accumulator form and every memory form, as numbers. -/
def Obligations.ShiftsAndRotates : Prop :=
  ∀ s : State,
    let c := (s.flag .c).toNat
    let done := fun (i : ShiftOperand → Instr) (r : Nat → Nat) (out : Nat → Bool) =>
      (Completes (i .acc) s fun t =>
        t.a.toNat = r s.a.toNat ∧ t.x = s.x ∧ t.y = s.y ∧ t.sp = s.sp ∧
        FlagsAfter s t ((.c, out s.a.toNat) :: nzOf t.a) ∧ SameMemory s t ∧ SameSurroundings s t ∧
        Advanced (i .acc) false s t) ∧
      (∀ (o : ShiftOperand) (m : MemMode), o.toMem = some m → Completes (i o) s fun t =>
        let v := (readByte s (effAddr m s)).toNat
        Stored (effAddr m s) (BitVec.ofNat 8 (r v)) s t ∧
        FlagsAfter s t ((.c, out v) :: nzOf (BitVec.ofNat 8 (r v))) ∧ SameRegisters s t ∧ SameSurroundings s t ∧
        Advanced (i o) false s t)
    done .asl (fun v => 2 * v % 256) (fun v => decide (128 ≤ v)) ∧
    done .lsr (fun v => v / 2) (fun v => decide (v % 2 = 1)) ∧
    done .rol (fun v => (2 * v + c) % 256) (fun v => decide (128 ≤ v)) ∧
    done .ror (fun v => v / 2 + 128 * c) (fun v => decide (v % 2 = 1))

/-- `t` is what `n` runs of one instruction leave. -/
def Sys2Proof.Machine.ExecTimes (i : Instr) : Nat → State → State → Prop
  | 0, s, t => t = s
  | n + 1, s, t => ∃ u, exec i s = .next u ∧ ExecTimes i n u t

/-- R169: nine-bit rotation, so nine ROLs give A and C back, and nine RORs too. -/
def Obligations.NineRotatesRestore : Prop :=
  ∀ s : State,
    (∃ t, ExecTimes (.rol .acc) 9 s t ∧ t.a = s.a ∧ t.flag .c = s.flag .c) ∧
    (∃ t, ExecTimes (.ror .acc) 9 s t ∧ t.a = s.a ∧ t.flag .c = s.flag .c)

/-! ## Control transfer -/

/-- JMP (R171), both forms; the indirect form takes the target's high byte from the pointer's own page (R108). -/
def Obligations.JumpInstructions : Prop :=
  ∀ (s : State) (w : Addr),
    let rd := fun n : Nat => (readByte s (BitVec.ofNat 16 n)).toNat
    (Completes (.jmp (.abs w)) s fun t =>
      t.pc = w ∧ t.cyc = s.cyc + 3 ∧ SameRegisters s t ∧ t.p = s.p ∧ SameMemory s t ∧ SameSurroundings s t) ∧
    (Completes (.jmp (.ind w)) s fun t =>
      t.pc.toNat = 256 * rd (w.toNat / 256 * 256 + (w.toNat % 256 + 1) % 256) + rd w.toNat ∧ t.cyc = s.cyc + 5 ∧
      SameRegisters s t ∧ t.p = s.p ∧ SameMemory s t ∧ SameSurroundings s t)

/-- JSR (R172): the address of its last byte is pushed, high byte first, and PC is the target. -/
def Obligations.JumpToSubroutine : Prop :=
  ∀ (s : State) (w : Addr), Completes (.jsr w) s fun t =>
    let ret := (s.pc.toNat + 2) % 65536
    let first := BitVec.ofNat 16 (0x100 + s.sp.toNat)
    let second := BitVec.ofNat 16 (0x100 + (s.sp.toNat + 255) % 256)
    t.pc = w ∧ t.sp = s.sp - 2 ∧ t.cyc = s.cyc + 6 ∧
    (readByte t first).toNat = ret / 256 ∧ (readByte t second).toNat = ret % 256 ∧
    (∀ b, ¬ RamAlias first b → ¬ RamAlias second b → readByte t b = readByte s b) ∧
    t.a = s.a ∧ t.x = s.x ∧ t.y = s.y ∧ t.p = s.p ∧ SameSurroundings s t

/-- RTS (R173) and RTI (R174): the pulled words, low byte first, with RTS's +1, and RTI's P through LoadP. -/
def Obligations.ReturnInstructions : Prop :=
  ∀ s : State,
    let at1 := readByte s (BitVec.ofNat 16 (0x100 + (s.sp.toNat + 1) % 256))
    let at2 := readByte s (BitVec.ofNat 16 (0x100 + (s.sp.toNat + 2) % 256))
    let at3 := readByte s (BitVec.ofNat 16 (0x100 + (s.sp.toNat + 3) % 256))
    (Completes .rts s fun t =>
      t.pc.toNat = (256 * at2.toNat + at1.toNat + 1) % 65536 ∧ t.sp = s.sp + 2 ∧ t.p = s.p ∧ t.cyc = s.cyc + 6 ∧
      t.a = s.a ∧ t.x = s.x ∧ t.y = s.y ∧ SameMemory s t ∧ SameSurroundings s t) ∧
    (Completes .rti s fun t =>
      t.pc.toNat = 256 * at3.toNat + at2.toNat ∧ t.sp = s.sp + 3 ∧ t.cyc = s.cyc + 6 ∧
      FlagsAfter s t ([(.b, false), (.u, true)] ++
        ([.c, .z, .i, .d, .v, .n] : List Flag).map (fun f => (f, getFlag at1 f))) ∧
      t.a = s.a ∧ t.x = s.x ∧ t.y = s.y ∧ SameMemory s t ∧ SameSurroundings s t)

/-- R172, R173: RTS after JSR resumes at the instruction after the JSR with SP, A, X, Y and P as before, at every SP and PC. -/
def Obligations.CallThenReturn : Prop :=
  ∀ (s : State) (w : Addr), Completes (.jsr w) s fun t => Completes .rts t fun u =>
    u.pc = s.pc + 3 ∧ SameRegisters s u ∧ u.p = s.p

/-- R175 to R184: each branch tests its flag; taken, PC is PC0 + 2 + the signed offset modulo 2^16 and 1 or, into another page, 2
cycles are added to the base 2; not taken, PC is PC0 + 2; nothing else changes. -/
def Obligations.ConditionalBranches : Prop :=
  ∀ (s : State) (r : Byte),
    let next : Nat := (s.pc.toNat + 2) % 65536
    let target : Int := ((s.pc.toNat : Int) + 2 + r.toInt) % 65536
    let done := fun (i : Instr) (cond : Bool) => Completes i s fun t =>
      (t.pc.toNat : Int) = (if cond then target else next) ∧
      t.cyc = s.cyc + 2 + (if cond then (if target / 256 = (next : Int) / 256 then 1 else 2) else 0) ∧
      SameRegisters s t ∧ t.p = s.p ∧ SameMemory s t ∧ SameSurroundings s t
    done (.bpl r) (!s.flag .n) ∧ done (.bmi r) (s.flag .n) ∧ done (.bvc r) (!s.flag .v) ∧ done (.bvs r) (s.flag .v) ∧
    done (.bcc r) (!s.flag .c) ∧ done (.bcs r) (s.flag .c) ∧ done (.bne r) (!s.flag .z) ∧ done (.beq r) (s.flag .z)

/-- BRK under Trap (R185): PC0 + 2 and P with B and bit 5 set are pushed, I is set, PC is the word at 0xFFFE. -/
def Obligations.BreakTrapTakesException : Prop :=
  ∀ s : State, s.params.brkPolicy = .trap → Completes .brk s fun t =>
    let ret := (s.pc.toNat + 2) % 65536
    let slot := fun k : Nat => BitVec.ofNat 16 (0x100 + (s.sp.toNat + 256 - k) % 256)
    (readByte t (slot 0)).toNat = ret / 256 ∧ (readByte t (slot 1)).toNat = ret % 256 ∧
    readByte t (slot 2) = s.p ||| 0x30 ∧
    (∀ b, ¬ RamAlias (slot 0) b → ¬ RamAlias (slot 1) b → ¬ RamAlias (slot 2) b → readByte t b = readByte s b) ∧
    t.pc.toNat = 256 * (readByte s 0xFFFF).toNat + (readByte s 0xFFFE).toNat ∧ t.sp = s.sp - 3 ∧
    FlagsAfter s t [(.i, true)] ∧ t.cyc = s.cyc + 7 ∧ t.a = s.a ∧ t.x = s.x ∧ t.y = s.y ∧ SameSurroundings s t

/-- BRK under Halt (R185): alone it only advances PC by 1 and adds 7 cycles. In a step the hook runs after it and then the run
halts with Break(PC0); no register or flag changes. -/
def Obligations.BreakHaltStopsRun : Prop :=
  ∀ s : State, s.params.brkPolicy = .halt →
    (Completes .brk s fun t =>
      t.pc = s.pc + 1 ∧ t.cyc = s.cyc + 7 ∧ SameRegisters s t ∧ t.p = s.p ∧ SameMemory s t ∧ SameSurroundings s t) ∧
    (s.run = .running → interruptCheck s = s → readByte s s.pc = 0x00 →
      ∃ t, step s = .next t ∧ t.run = .halted ∧ t.haltReason = .brk s.pc ∧ t.pc = s.pc + 1 ∧ t.cyc = s.cyc + 7 ∧
        SameRegisters s t ∧ t.p = s.p ∧ SameMemory (runHook s) t)

/-! ## Flag instructions and NOPs -/

/-- CLC, SEC, CLI, SEI, CLD, SED, CLV (R188 to R194) write one flag each; NOP (R195) writes nothing. -/
def Obligations.FlagInstructions : Prop :=
  ∀ s : State,
    let done := fun (i : Instr) (flags : List (Flag × Bool)) => Completes i s fun t =>
      FlagsAfter s t flags ∧ SameRegisters s t ∧ SameMemory s t ∧ SameSurroundings s t ∧ Advanced i false s t
    done .clc [(.c, false)] ∧ done .sec [(.c, true)] ∧ done .cli [(.i, false)] ∧ done .sei [(.i, true)] ∧
    done .cld [(.d, false)] ∧ done .sed [(.d, true)] ∧ done .clv [(.v, false)] ∧ done .nop []

/-- Unofficial NOPs (R197), every form: only PC and CYC change, by the form's length and, for abs,X, the page-cross cycle. -/
def Obligations.UnofficialNops : Prop :=
  ∀ (op : Byte) (o : NopOperand) (s : State),
    (Instr.nopUnofficial op o).wellFormed = true → s.params.admitUnofficial = true →
    Completes (.nopUnofficial op o) s fun t =>
      t.pc = s.pc + BitVec.ofNat 16 (match o with | .imp => 1 | .abs _ | .absX _ => 3 | .imm _ | .zp _ | .zpX _ => 2) ∧
      t.cyc = s.cyc + (match o with
        | .imp | .imm _ => 2
        | .zp _ => 3
        | .zpX _ | .abs _ => 4
        | .absX w => if w.toNat / 256 = (w.toNat + s.x.toNat) % 65536 / 256 then 4 else 5) ∧
      t.p = s.p ∧ SameRegisters s t ∧ SameMemory s t ∧ SameSurroundings s t

/-! ## Unofficial instructions -/

/-- LAX (R198), every form. -/
def Obligations.LoadAAndX : Prop :=
  ∀ (o : LaxOperand) (s : State), s.params.admitUnofficial = true →
    let m := readByte s (effAddr o.toMem s)
    Completes (.lax o) s fun t =>
      t.a = m ∧ t.x = m ∧ t.y = s.y ∧ t.sp = s.sp ∧ FlagsAfter s t (nzOf m) ∧ SameMemory s t ∧ SameSurroundings s t ∧
      Advanced (.lax o) (crossed o.toMem s) s t

/-- SLO, RLA, SRE (R201 to R203), every form: the shifted cell is stored, then combined into A bit by bit. -/
def Obligations.ShiftAndCombine : Prop :=
  ∀ (o : Mem7Operand) (s : State), s.params.admitUnofficial = true →
    let v := (readByte s (effAddr o.toMem s)).toNat
    let done := fun (i : Instr) (r : Nat) (op : Bool → Bool → Bool) (out : Bool) => Completes i s fun t =>
      Stored (effAddr o.toMem s) (BitVec.ofNat 8 r) s t ∧
      (∀ k < 8, t.a.getLsbD k = op (s.a.getLsbD k) (r.testBit k)) ∧ t.x = s.x ∧ t.y = s.y ∧ t.sp = s.sp ∧
      FlagsAfter s t ((.c, out) :: nzOf t.a) ∧ SameSurroundings s t ∧ Advanced i false s t
    done (.slo o) (2 * v % 256) (· || ·) (decide (128 ≤ v)) ∧
    done (.rla o) ((2 * v + (s.flag .c).toNat) % 256) (· && ·) (decide (128 ≤ v)) ∧
    done (.sre o) (v / 2) (· ^^ ·) (decide (v % 2 = 1))

/-- RRA (R204) and ISB (R206), every form: the cell is rotated or incremented and stored; then A is added to or subtracted from,
for RRA with the carry out of the rotate. -/
def Obligations.RotateAddAndIncrementSubtract : Prop :=
  ∀ (o : Mem7Operand) (s : State), s.params.admitUnofficial = true →
    let v := (readByte s (effAddr o.toMem s)).toNat
    let c := (s.flag .c).toNat
    (Completes (.rra o) s fun t =>
      let r : Byte := BitVec.ofNat 8 (v / 2 + 128 * c)
      Stored (effAddr o.toMem s) r s t ∧
      t.a.toNat = (s.a.toNat + r.toNat + v % 2) % 256 ∧ t.x = s.x ∧ t.y = s.y ∧ t.sp = s.sp ∧
      FlagsAfter s t (nzOf t.a ++
        [(.c, decide (0xFF < s.a.toNat + r.toNat + v % 2)),
         (.v, decide (s.a.toInt + r.toInt + (v % 2 : Nat) < -128 ∨ 127 < s.a.toInt + r.toInt + (v % 2 : Nat)))]) ∧
      SameSurroundings s t ∧ Advanced (.rra o) false s t) ∧
    (Completes (.isb o) s fun t =>
      let r : Byte := BitVec.ofNat 8 ((v + 1) % 256)
      Stored (effAddr o.toMem s) r s t ∧ Subtracted r s t ∧
      SameSurroundings s t ∧ Advanced (.isb o) false s t)

/-- DCP (R205), every form: the decremented cell is stored, then compared with A. -/
def Obligations.DecrementCompare : Prop :=
  ∀ (o : Mem7Operand) (s : State), s.params.admitUnofficial = true → Completes (.dcp o) s fun t =>
    let r : Byte := BitVec.ofNat 8 (((readByte s (effAddr o.toMem s)).toNat + 255) % 256)
    Stored (effAddr o.toMem s) r s t ∧ Compared s.a r s t ∧ SameRegisters s t ∧ SameSurroundings s t ∧
    Advanced (.dcp o) false s t

/-- ANC, ALR, ARR, SBX (R207 to R210). ANC has two opcodes, each well-formed form of which completes so. -/
def Obligations.UnofficialImmediates : Prop :=
  ∀ (op b : Byte) (s : State), s.params.admitUnofficial = true →
    let m := (s.a &&& b).toNat
    let ax := (s.a &&& s.x).toNat
    let rest := fun (i : Instr) (t : State) => t.y = s.y ∧ t.sp = s.sp ∧ SameMemory s t ∧ SameSurroundings s t ∧
      Advanced i false s t
    ((Instr.anc op b).wellFormed = true → Completes (.anc op b) s fun t =>
      t.a.toNat = m ∧ t.x = s.x ∧ FlagsAfter s t ((.c, decide (128 ≤ m)) :: nzOf t.a) ∧ rest (.anc op b) t) ∧
    (Completes (.alr b) s fun t =>
      t.a.toNat = m / 2 ∧ t.x = s.x ∧ FlagsAfter s t ((.c, decide (m % 2 = 1)) :: nzOf t.a) ∧ rest (.alr b) t) ∧
    (Completes (.arr b) s fun t =>
      t.a.toNat = m / 2 + 128 * (s.flag .c).toNat ∧ t.x = s.x ∧
      FlagsAfter s t ([(.c, t.a.getLsbD 6), (.v, t.a.getLsbD 6 != t.a.getLsbD 5)] ++ nzOf t.a) ∧ rest (.arr b) t) ∧
    (Completes (.sbx b) s fun t =>
      t.x.toNat = (ax + 256 - b.toNat) % 256 ∧ t.a = s.a ∧
      FlagsAfter s t ((.c, decide (b.toNat ≤ ax)) :: nzOf t.x) ∧ rest (.sbx b) t)

/-! ## Faults -/

/-- R113, R196, R301, for the instruction alone: tier 3 always, and tier 2 without ADMIT_UNOFFICIAL, halts with
IllegalOpcode(OPC, PC0) and changes nothing else; each tier-3 instruction is then named with its opcode. -/
def Obligations.IllegalOpcodeHalts : Prop :=
  ∀ s : State,
    let halted := fun op : Byte => { s with run := .halted, haltReason := .illegalOpcode op s.pc }
    (∀ i : Instr, i.wellFormed = true →
      ((entry i.opcode).tier = .unimplemented ∨
        (entry i.opcode).tier = .unofficial ∧ s.params.admitUnofficial = false) →
      exec i s = .next (halted i.opcode)) ∧
    (∀ op ∈ ([0x02, 0x12, 0x22, 0x32, 0x42, 0x52, 0x62, 0x72, 0x92, 0xB2, 0xD2, 0xF2] : List Byte),
      exec (.jam op) s = .next (halted op)) ∧
    (∀ (b : Byte) (w : Addr),
      exec (.ane b) s = .next (halted 0x8B) ∧ exec (.lxa b) s = .next (halted 0xAB) ∧
      exec (.sha (.indY b)) s = .next (halted 0x93) ∧ exec (.sha (.absY w)) s = .next (halted 0x9F) ∧
      exec (.shx w) s = .next (halted 0x9E) ∧ exec (.shy w) s = .next (halted 0x9C) ∧
      exec (.tas w) s = .next (halted 0x9B) ∧ exec (.las w) s = .next (halted 0xBB))

/-- R301, R302: a step that fetches an opcode of tier 3, or of tier 2 without ADMIT_UNOFFICIAL, leaves the state after the interrupt
check with RUN = Halted and HALT_REASON; no hook runs. -/
def Obligations.StepIllegalOpcodeIsPrecise : Prop :=
  ∀ s : State, s.run = .running →
    let s0 := interruptCheck s
    let op := readByte s0 s0.pc
    ((entry op).tier = .unimplemented ∨ (entry op).tier = .unofficial ∧ s.params.admitUnofficial = false) →
    step s = .next { s0 with run := .halted, haltReason := .illegalOpcode op s0.pc }

/-! ## Interrupts -/

/-- R305: interrupt entry, through the NMI or the IRQ vector, pushes PC, high byte first, and P with B = 0 and bit 5 = 1, sets I,
loads PC from the vector and adds 7 cycles; RUN is Running after it and nothing else changes; RTI then resumes at the return
address. -/
def Obligations.InterruptEntry : Prop :=
  ∀ (s : State) (vector : Addr), vector = 0xFFFA ∨ vector = 0xFFFE →
    let t := enterInterrupt vector s
    let slot := fun k : Nat => BitVec.ofNat 16 (0x100 + (s.sp.toNat + 256 - k) % 256)
    (readByte t (slot 0)).toNat = s.pc.toNat / 256 ∧ (readByte t (slot 1)).toNat = s.pc.toNat % 256 ∧
    readByte t (slot 2) = (s.p &&& 0xCF) ||| 0x20 ∧
    (∀ b, ¬ RamAlias (slot 0) b → ¬ RamAlias (slot 1) b → ¬ RamAlias (slot 2) b → readByte t b = readByte s b) ∧
    t.pc.toNat = 256 * (readByte s (vector + 1)).toNat + (readByte s vector).toNat ∧ t.sp = s.sp - 3 ∧
    FlagsAfter s t [(.i, true)] ∧ t.cyc = s.cyc + 7 ∧ t.a = s.a ∧ t.x = s.x ∧ t.y = s.y ∧
    SameSurroundings (s.setRun .running) t ∧ Completes .rti t fun u => u.pc = s.pc

/-- R303: NMI before IRQ, NMI whatever I is and cleared on entry, IRQ only while I is 0 and never cleared. -/
def Obligations.InterruptPriority : Prop :=
  ∀ s : State,
    (s.nmiPending = true → interruptCheck s = enterInterrupt 0xFFFA { s with nmiPending := false }) ∧
    (s.nmiPending = false → s.irqLevel = true → s.flag .i = false → interruptCheck s = enterInterrupt 0xFFFE s) ∧
    (s.nmiPending = false → (s.irqLevel = false ∨ s.flag .i = true) → interruptCheck s = s) ∧
    (interruptCheck s).nmiPending = false ∧ (interruptCheck s).irqLevel = s.irqLevel

/-- R174, R305, R309: RTI right after an interrupt entry resumes the interrupted code: PC, SP, A, X, Y and every flag but B and bit 5
are as before, and those two are 0 and 1. -/
def Obligations.ReturnResumesInterruptedCode : Prop :=
  ∀ (s : State) (vector : Addr), Completes .rti (enterInterrupt vector s) fun u =>
    u.pc = s.pc ∧ SameRegisters s u ∧ FlagsAfter s u [(.b, false), (.u, true)]

/-- R351: the I that CLI clears is used by the very next interrupt check. -/
def Obligations.ClearedMaskTakesEffectAtOnce : Prop :=
  ∀ s : State, s.irqLevel = true → s.nmiPending = false → Completes .cli s fun t =>
    interruptCheck t = enterInterrupt 0xFFFE t

/-! ## Whole-machine rules -/

/-- The general registers (10_state.md R22 to R25). -/
inductive Sys2Proof.Machine.Register
  | a | x | y | sp
  deriving DecidableEq, Repr

/-- The registers each instruction writes, by the writer lists of R22 to R26 and each rule's pseudocode. -/
def Sys2Proof.Machine.registersWritten (policy : BrkPolicy) : Instr → List Register
  | .lda _ | .txa | .tya | .adc _ | .sbc _ | .and _ | .ora _ | .eor _ | .sbcUnofficial _ | .slo _ | .rla _ | .sre _ | .rra _
  | .isb _ | .anc _ _ | .alr _ | .arr _ => [.a]
  | .asl o | .lsr o | .rol o | .ror o => if o = .acc then [.a] else []
  | .lax _ => [.a, .x]
  | .pla => [.a, .sp]
  | .ldx _ | .tax | .tsx | .inx | .dex | .sbx _ => [.x]
  | .ldy _ | .tay | .iny | .dey => [.y]
  | .txs | .pha | .php | .plp | .jsr _ | .rts | .rti => [.sp]
  | .brk => if policy = .trap then [.sp] else []
  | .sta _ | .stx _ | .sty _ | .cmp _ | .cpx _ | .cpy _ | .bit _ | .inc _ | .dec _ | .jmp _ | .bpl _ | .bmi _ | .bvc _ | .bvs _
  | .bcc _ | .bcs _ | .bne _ | .beq _ | .clc | .sec | .cli | .sei | .cld | .sed | .clv | .nop | .nopUnofficial _ _ | .sax _
  | .dcp _ | .jam _ | .ane _ | .lxa _ | .sha _ | .shx _ | .shy _ | .tas _ | .las _ => []

/-- R22 to R26: no other instruction changes A, X, Y or SP. -/
def Obligations.OnlyListedInstructionsWriteRegisters : Prop :=
  ∀ (i : Instr) (s t : State), exec i s = .next t →
    let written := registersWritten s.params.brkPolicy i
    (.a ∉ written → t.a = s.a) ∧ (.x ∉ written → t.x = s.x) ∧ (.y ∉ written → t.y = s.y) ∧ (.sp ∉ written → t.sp = s.sp)

/-- The flags each instruction writes, by the table of R58. -/
def Sys2Proof.Machine.flagsWritten (policy : BrkPolicy) : Instr → List Flag
  | .adc _ | .sbc _ | .sbcUnofficial _ | .rra _ | .isb _ | .arr _ => [.n, .v, .z, .c]
  | .and _ | .ora _ | .eor _ | .lda _ | .ldx _ | .ldy _ | .lax _ | .tax | .tay | .txa | .tya | .tsx | .pla | .inc _ | .dec _
  | .inx | .iny | .dex | .dey => [.n, .z]
  | .asl _ | .lsr _ | .rol _ | .ror _ | .cmp _ | .cpx _ | .cpy _ | .dcp _ | .slo _ | .rla _ | .sre _ | .anc _ _ | .alr _
  | .sbx _ => [.n, .z, .c]
  | .bit _ => [.n, .v, .z]
  | .clc | .sec => [.c]
  | .cli | .sei => [.i]
  | .cld | .sed => [.d]
  | .clv => [.v]
  | .plp | .rti => [.n, .v, .b, .u, .d, .i, .z, .c]
  | .brk => if policy = .trap then [.i] else []
  | .sta _ | .stx _ | .sty _ | .sax _ | .txs | .pha | .php | .jmp _ | .jsr _ | .rts | .bpl _ | .bmi _ | .bvc _ | .bvs _ | .bcc _
  | .bcs _ | .bne _ | .beq _ | .nop | .nopUnofficial _ _ | .jam _ | .ane _ | .lxa _ | .sha _ | .shx _ | .shy _ | .tas _
  | .las _ => []

/-- R58: no instruction changes a flag its row of the table leaves untouched. -/
def Obligations.UnlistedFlagsUntouched : Prop :=
  ∀ (i : Instr) (s t : State), exec i s = .next t →
    ∀ f, f ∉ flagsWritten s.params.brkPolicy i → t.flag f = s.flag f

/-- The addresses an instruction stores to, by its rule: EA of a store or a read-modify-write, the slots of its pushes. -/
def Sys2Proof.Machine.storedAddrs (i : Instr) (s : State) : List Addr :=
  let slot := fun k : Nat => BitVec.ofNat 16 (0x100 + (s.sp.toNat + 256 - k) % 256)
  match i with
  | .sta o | .slo o | .rla o | .sre o | .rra o | .dcp o | .isb o => [effAddr o.toMem s]
  | .stx o => [effAddr o.toMem s]
  | .sty o => [effAddr o.toMem s]
  | .sax o => [effAddr o.toMem s]
  | .inc o | .dec o => [effAddr o.toMem s]
  | .asl o | .lsr o | .rol o | .ror o => (o.toMem.map (fun m => effAddr m s)).toList
  | .pha | .php => [slot 0]
  | .jsr _ => [slot 0, slot 1]
  | .brk => if s.params.brkPolicy = .trap then [slot 0, slot 1, slot 2] else []
  | .lda _ | .ldx _ | .ldy _ | .tax | .tay | .txa | .tya | .tsx | .txs | .pla | .plp | .adc _ | .sbc _ | .cmp _ | .cpx _ | .cpy _
  | .and _ | .ora _ | .eor _ | .bit _ | .inx | .iny | .dex | .dey | .jmp _ | .rts | .rti | .bpl _ | .bmi _ | .bvc _ | .bvs _
  | .bcc _ | .bcs _ | .bne _ | .beq _ | .clc | .sec | .cli | .sei | .cld | .sed | .clv | .nop | .nopUnofficial _ _ | .lax _
  | .sbcUnofficial _ | .anc _ _ | .alr _ | .arr _ | .sbx _ | .jam _ | .ane _ | .lxa _ | .sha _ | .shx _ | .shy _ | .tas _
  | .las _ => []

/-- R62, R75, R111 and the instruction rules: every byte outside the stored addresses reads as before; for a form that stores
nothing, every byte. -/
def Obligations.OnlyStoredBytesChange : Prop :=
  ∀ (i : Instr) (s t : State), exec i s = .next t →
    ∀ b, (∀ a ∈ storedAddrs i s, ¬ RamAlias a b) → readByte t b = readByte s b

/-- R30, R52, R55, R311: no instruction that executes changes the run state, the interrupt inputs or the image. That it changes
neither the coming hook writes nor the parameters is about the model's own fields for them (DESIGN CHOICE, notes/assumptions/4.md
and 1.md). -/
def Obligations.InstructionsKeepSurroundings : Prop :=
  ∀ (i : Instr) (s t : State), admitted s i.opcode = true → i.wellFormed = true → exec i s = .next t →
    SameSurroundings s t

/-- R39, R122, R148: D changes no result. Setting D before any instruction that neither pushes nor writes D is setting it after. -/
def Obligations.DecimalFlagIsInert : Prop :=
  ∀ (i : Instr) (s t : State) (d : Bool),
    i ∉ ([.php, .plp, .rti, .brk, .cld, .sed] : List Instr) → exec i s = .next t →
    exec i (s.setFlag .d d) = .next (t.setFlag .d d)

/-! ## The step, the host, reset -/

/-- R47, R311, R301: a step of a running core is the interrupt check, exec of the instruction whose bytes stand at PC, and, unless
that raised IllegalOpcode, the hook and the halt check of BRK. -/
def Obligations.StepRunsDecodedInstruction : Prop :=
  ∀ (s : State) (i : Instr) (rest : List Byte), s.run = .running →
    let s0 := interruptCheck s
    decode [readByte s0 s0.pc, readByte s0 (s0.pc + 1), readByte s0 (s0.pc + 2)] = .ok (i, rest) →
    step s = (match exec i s0 with
      | .next t =>
        if (entry i.opcode).tier = .official ∨ (entry i.opcode).tier = .unofficial ∧ s.params.admitUnofficial = true then
          if i.opcode = 0x00 ∧ t.params.brkPolicy = .halt then
            .next { runHook t with run := .halted, haltReason := .brk s0.pc }
          else .next (runHook t)
        else .next t
      | .fault r => .fault r
      | .refused r => .refused r)

/-- R47, R300: a running core always has a next state, no instruction faults or is refused, and in Reset and Halted it has none. -/
def Obligations.StepsExactlyWhileRunning : Prop :=
  ∀ s : State, (s.run = .running → ∃ t, step s = .next t) ∧ (s.run ≠ .running → step s = .fault (.notRunning s.run))

/-- R311, R82: the hook changes nothing but RAM, and a byte reads the last value this call's writes put at an alias of its address,
else as before. That the coming writes stand in a list of which each call consumes one entry is the model's choice and no rule's
(DESIGN CHOICE, notes/assumptions/4.md). -/
def Obligations.HookWritesMemoryOnly : Prop :=
  ∀ s : State,
    (runHook s).hook = s.hook.tail ∧ { runHook s with ram := s.ram, hook := s.hook } = s ∧
    (∀ b, (∀ wr ∈ s.hook.headD [], ¬ RamAlias wr.1 b) → readByte (runHook s) b = readByte s b) ∧
    (∀ ws a v ws' later b, s.hook = (ws ++ (a, v) :: ws') :: later → RamAlias a b → (∀ wr ∈ ws', ¬ RamAlias wr.1 b) →
      readByte (runHook s) b = v)

/-- R55, R52: no step changes the image, its size or IRQ_LEVEL. That no step changes the parameters of R10 either is the model's
choice of where they stand (DESIGN CHOICE, notes/assumptions/1.md). -/
def Obligations.StepKeepsImageAndParameters : Prop :=
  ∀ s t : State, step s = .next t →
    t.prg = s.prg ∧ t.prgSize = s.prgSize ∧ t.params = s.params ∧ t.irqLevel = s.irqLevel

/-- R341, R342: what reset leaves in every field, from any state, and the default values of SP_RESET and RESET_CYCLES (R10). That it
keeps the coming hook writes and the parameters is about the model's own fields for them (DESIGN CHOICE, notes/assumptions/4.md
and 1.md). -/
def Obligations.ResetSequence : Prop :=
  ∀ s : State,
    let t := hostReset s
    t.a = 0 ∧ t.x = 0 ∧ t.y = 0 ∧ t.sp = s.params.spReset ∧ t.p = 0x24 ∧
    t.pc.toNat = 256 * (readByte s 0xFFFD).toNat + (readByte s 0xFFFC).toNat ∧
    t.cyc = s.params.resetCycles ∧ t.nmiPending = false ∧ t.haltReason = .none ∧ t.run = .running ∧
    t.ram = s.ram ∧ t.irqLevel = s.irqLevel ∧ t.prg = s.prg ∧ t.prgSize = s.prgSize ∧ t.hook = s.hook ∧ t.params = s.params ∧
    Params.default.spReset = 0xFD ∧ Params.default.resetCycles = 0

/-- The invariant holds of the reset state (R40, R44, R46, R50; for the memories, the model's choice of notes/assumptions/2.md). -/
def Obligations.ResetStateMeetsInvariant : Prop := State.reset.Inv

/-- Reset establishes the invariant from any state whose memories are canonical (R40, R44, R46, R50, R341). -/
def Obligations.ResetEstablishesInvariant : Prop :=
  ∀ s : State, s.ram.wf Config.ramBytes = true → s.prg.wf s.prgSize.bytes = true → (hostReset s).Inv

/-- Every step keeps the invariant: P has bit 5 set and B clear, RUN is Running or Halted with HALT_REASON to match, RAM stays
canonical within 2,048 bytes, the image within its size (R40, R44, R46, R50, R55, R56). -/
def Obligations.StepKeepsInvariant : Prop :=
  ∀ s t : State, s.Inv → step s = .next t → t.Inv

/-- R348: a 16 KiB image whose reset vector is 0x8000 and whose first byte is 0x00, reset under the Halt policy, runs exactly one
step, whatever the host writes, and stops with PC = 0x8001, Break(0x8000) and RESET_CYCLES + 7 cycles, A, X, Y, SP and P as reset
left them. -/
def Obligations.SingleBreakFromReset : Prop :=
  ∀ (prg ram : Memory) (params : Params) (hook : List (List HostWrite)) (fuel : Nat),
    prg.get 0x0000 = 0x00 → prg.get 0x3FFC = 0x00 → prg.get 0x3FFD = 0x80 → params.brkPolicy = .halt →
    let s := { hostReset (constructed prg .kib16 ram params) with hook := hook }
    let t := runWithHook (fuel + 1) s
    step s = .next t ∧ t.run = .halted ∧ t.haltReason = .brk 0x8000 ∧ t.pc = 0x8001 ∧ t.cyc = params.resetCycles + 7 ∧
    SameRegisters s t ∧ t.p = s.p

/-! ## The columns of the opcode table -/

/-- One instruction's opcodes, taken from its own rule and not from the table: the opcode and mode of each form, as its Encoding line
lists them, with the form's base cycles (R116). -/
structure Sys2Proof.EncodingLine where
  mnemonic : Mnemonic
  forms : List (Byte × Mode × Nat)
  deriving DecidableEq, Repr

/-- The Encoding lines of R131 to R146. -/
def Sys2Proof.loadStoreLines : List EncodingLine := [
  ⟨.lda, [(0xA9, .immediate, 2), (0xA5, .zeroPage, 3), (0xB5, .zeroPageX, 4), (0xAD, .absolute, 4), (0xBD, .absoluteX, 4),
    (0xB9, .absoluteY, 4), (0xA1, .indexedIndirect, 6), (0xB1, .indirectIndexed, 5)]⟩,
  ⟨.ldx, [(0xA2, .immediate, 2), (0xA6, .zeroPage, 3), (0xB6, .zeroPageY, 4), (0xAE, .absolute, 4), (0xBE, .absoluteY, 4)]⟩,
  ⟨.ldy, [(0xA0, .immediate, 2), (0xA4, .zeroPage, 3), (0xB4, .zeroPageX, 4), (0xAC, .absolute, 4), (0xBC, .absoluteX, 4)]⟩,
  ⟨.sta, [(0x85, .zeroPage, 3), (0x95, .zeroPageX, 4), (0x8D, .absolute, 4), (0x9D, .absoluteX, 5), (0x99, .absoluteY, 5),
    (0x81, .indexedIndirect, 6), (0x91, .indirectIndexed, 6)]⟩,
  ⟨.stx, [(0x86, .zeroPage, 3), (0x96, .zeroPageY, 4), (0x8E, .absolute, 4)]⟩,
  ⟨.sty, [(0x84, .zeroPage, 3), (0x94, .zeroPageX, 4), (0x8C, .absolute, 4)]⟩,
  ⟨.tax, [(0xAA, .implied, 2)]⟩,
  ⟨.tay, [(0xA8, .implied, 2)]⟩,
  ⟨.txa, [(0x8A, .implied, 2)]⟩,
  ⟨.tya, [(0x98, .implied, 2)]⟩,
  ⟨.tsx, [(0xBA, .implied, 2)]⟩,
  ⟨.txs, [(0x9A, .implied, 2)]⟩,
  ⟨.pha, [(0x48, .implied, 3)]⟩,
  ⟨.php, [(0x08, .implied, 3)]⟩,
  ⟨.pla, [(0x68, .implied, 4)]⟩,
  ⟨.plp, [(0x28, .implied, 4)]⟩ ]

/-- The Encoding lines of R150 to R165. -/
def Sys2Proof.arithLogicLines : List EncodingLine := [
  ⟨.adc, [(0x69, .immediate, 2), (0x65, .zeroPage, 3), (0x75, .zeroPageX, 4), (0x6D, .absolute, 4), (0x7D, .absoluteX, 4),
    (0x79, .absoluteY, 4), (0x61, .indexedIndirect, 6), (0x71, .indirectIndexed, 5)]⟩,
  ⟨.sbc, [(0xE9, .immediate, 2), (0xE5, .zeroPage, 3), (0xF5, .zeroPageX, 4), (0xED, .absolute, 4), (0xFD, .absoluteX, 4),
    (0xF9, .absoluteY, 4), (0xE1, .indexedIndirect, 6), (0xF1, .indirectIndexed, 5)]⟩,
  ⟨.cmp, [(0xC9, .immediate, 2), (0xC5, .zeroPage, 3), (0xD5, .zeroPageX, 4), (0xCD, .absolute, 4), (0xDD, .absoluteX, 4),
    (0xD9, .absoluteY, 4), (0xC1, .indexedIndirect, 6), (0xD1, .indirectIndexed, 5)]⟩,
  ⟨.cpx, [(0xE0, .immediate, 2), (0xE4, .zeroPage, 3), (0xEC, .absolute, 4)]⟩,
  ⟨.cpy, [(0xC0, .immediate, 2), (0xC4, .zeroPage, 3), (0xCC, .absolute, 4)]⟩,
  ⟨.and, [(0x29, .immediate, 2), (0x25, .zeroPage, 3), (0x35, .zeroPageX, 4), (0x2D, .absolute, 4), (0x3D, .absoluteX, 4),
    (0x39, .absoluteY, 4), (0x21, .indexedIndirect, 6), (0x31, .indirectIndexed, 5)]⟩,
  ⟨.ora, [(0x09, .immediate, 2), (0x05, .zeroPage, 3), (0x15, .zeroPageX, 4), (0x0D, .absolute, 4), (0x1D, .absoluteX, 4),
    (0x19, .absoluteY, 4), (0x01, .indexedIndirect, 6), (0x11, .indirectIndexed, 5)]⟩,
  ⟨.eor, [(0x49, .immediate, 2), (0x45, .zeroPage, 3), (0x55, .zeroPageX, 4), (0x4D, .absolute, 4), (0x5D, .absoluteX, 4),
    (0x59, .absoluteY, 4), (0x41, .indexedIndirect, 6), (0x51, .indirectIndexed, 5)]⟩,
  ⟨.bit, [(0x24, .zeroPage, 3), (0x2C, .absolute, 4)]⟩,
  ⟨.inc, [(0xE6, .zeroPage, 5), (0xF6, .zeroPageX, 6), (0xEE, .absolute, 6), (0xFE, .absoluteX, 7)]⟩,
  ⟨.dec, [(0xC6, .zeroPage, 5), (0xD6, .zeroPageX, 6), (0xCE, .absolute, 6), (0xDE, .absoluteX, 7)]⟩,
  ⟨.inx, [(0xE8, .implied, 2)]⟩,
  ⟨.iny, [(0xC8, .implied, 2)]⟩,
  ⟨.dex, [(0xCA, .implied, 2)]⟩,
  ⟨.dey, [(0x88, .implied, 2)]⟩ ]

/-- The Encoding lines of R167 to R185. -/
def Sys2Proof.shiftControlLines : List EncodingLine := [
  ⟨.asl, [(0x0A, .accumulator, 2), (0x06, .zeroPage, 5), (0x16, .zeroPageX, 6), (0x0E, .absolute, 6), (0x1E, .absoluteX, 7)]⟩,
  ⟨.lsr, [(0x4A, .accumulator, 2), (0x46, .zeroPage, 5), (0x56, .zeroPageX, 6), (0x4E, .absolute, 6), (0x5E, .absoluteX, 7)]⟩,
  ⟨.rol, [(0x2A, .accumulator, 2), (0x26, .zeroPage, 5), (0x36, .zeroPageX, 6), (0x2E, .absolute, 6), (0x3E, .absoluteX, 7)]⟩,
  ⟨.ror, [(0x6A, .accumulator, 2), (0x66, .zeroPage, 5), (0x76, .zeroPageX, 6), (0x6E, .absolute, 6), (0x7E, .absoluteX, 7)]⟩,
  ⟨.jmp, [(0x4C, .absolute, 3), (0x6C, .indirect, 5)]⟩,
  ⟨.jsr, [(0x20, .absolute, 6)]⟩,
  ⟨.rts, [(0x60, .implied, 6)]⟩,
  ⟨.rti, [(0x40, .implied, 6)]⟩,
  ⟨.bpl, [(0x10, .relative, 2)]⟩,
  ⟨.bmi, [(0x30, .relative, 2)]⟩,
  ⟨.bvc, [(0x50, .relative, 2)]⟩,
  ⟨.bvs, [(0x70, .relative, 2)]⟩,
  ⟨.bcc, [(0x90, .relative, 2)]⟩,
  ⟨.bcs, [(0xB0, .relative, 2)]⟩,
  ⟨.bne, [(0xD0, .relative, 2)]⟩,
  ⟨.beq, [(0xF0, .relative, 2)]⟩,
  ⟨.brk, [(0x00, .implied, 7)]⟩ ]

/-- The Encoding lines of R188 to R195. -/
def Sys2Proof.flagLines : List EncodingLine := [
  ⟨.clc, [(0x18, .implied, 2)]⟩,
  ⟨.sec, [(0x38, .implied, 2)]⟩,
  ⟨.cli, [(0x58, .implied, 2)]⟩,
  ⟨.sei, [(0x78, .implied, 2)]⟩,
  ⟨.cld, [(0xD8, .implied, 2)]⟩,
  ⟨.sed, [(0xF8, .implied, 2)]⟩,
  ⟨.clv, [(0xB8, .implied, 2)]⟩,
  ⟨.nop, [(0xEA, .implied, 2)]⟩ ]

/-- The Encoding lines of R197 to R210, the 85 opcodes of R114. -/
def Sys2Proof.unofficialLines : List EncodingLine := [
  ⟨.nop, [(0x80, .immediate, 2), (0x82, .immediate, 2), (0x89, .immediate, 2), (0xC2, .immediate, 2), (0xE2, .immediate, 2),
    (0x1A, .implied, 2), (0x3A, .implied, 2), (0x5A, .implied, 2), (0x7A, .implied, 2), (0xDA, .implied, 2),
    (0xFA, .implied, 2), (0x04, .zeroPage, 3), (0x44, .zeroPage, 3), (0x64, .zeroPage, 3), (0x14, .zeroPageX, 4),
    (0x34, .zeroPageX, 4), (0x54, .zeroPageX, 4), (0x74, .zeroPageX, 4), (0xD4, .zeroPageX, 4), (0xF4, .zeroPageX, 4),
    (0x0C, .absolute, 4), (0x1C, .absoluteX, 4), (0x3C, .absoluteX, 4), (0x5C, .absoluteX, 4), (0x7C, .absoluteX, 4),
    (0xDC, .absoluteX, 4), (0xFC, .absoluteX, 4)]⟩,
  ⟨.lax, [(0xA7, .zeroPage, 3), (0xB7, .zeroPageY, 4), (0xAF, .absolute, 4), (0xBF, .absoluteY, 4), (0xA3, .indexedIndirect, 6),
    (0xB3, .indirectIndexed, 5)]⟩,
  ⟨.sax, [(0x87, .zeroPage, 3), (0x97, .zeroPageY, 4), (0x8F, .absolute, 4), (0x83, .indexedIndirect, 6)]⟩,
  ⟨.sbc, [(0xEB, .immediate, 2)]⟩,
  ⟨.slo, [(0x07, .zeroPage, 5), (0x17, .zeroPageX, 6), (0x0F, .absolute, 6), (0x1F, .absoluteX, 7), (0x1B, .absoluteY, 7),
    (0x03, .indexedIndirect, 8), (0x13, .indirectIndexed, 8)]⟩,
  ⟨.rla, [(0x27, .zeroPage, 5), (0x37, .zeroPageX, 6), (0x2F, .absolute, 6), (0x3F, .absoluteX, 7), (0x3B, .absoluteY, 7),
    (0x23, .indexedIndirect, 8), (0x33, .indirectIndexed, 8)]⟩,
  ⟨.sre, [(0x47, .zeroPage, 5), (0x57, .zeroPageX, 6), (0x4F, .absolute, 6), (0x5F, .absoluteX, 7), (0x5B, .absoluteY, 7),
    (0x43, .indexedIndirect, 8), (0x53, .indirectIndexed, 8)]⟩,
  ⟨.rra, [(0x67, .zeroPage, 5), (0x77, .zeroPageX, 6), (0x6F, .absolute, 6), (0x7F, .absoluteX, 7), (0x7B, .absoluteY, 7),
    (0x63, .indexedIndirect, 8), (0x73, .indirectIndexed, 8)]⟩,
  ⟨.dcp, [(0xC7, .zeroPage, 5), (0xD7, .zeroPageX, 6), (0xCF, .absolute, 6), (0xDF, .absoluteX, 7), (0xDB, .absoluteY, 7),
    (0xC3, .indexedIndirect, 8), (0xD3, .indirectIndexed, 8)]⟩,
  ⟨.isb, [(0xE7, .zeroPage, 5), (0xF7, .zeroPageX, 6), (0xEF, .absolute, 6), (0xFF, .absoluteX, 7), (0xFB, .absoluteY, 7),
    (0xE3, .indexedIndirect, 8), (0xF3, .indirectIndexed, 8)]⟩,
  ⟨.anc, [(0x0B, .immediate, 2), (0x2B, .immediate, 2)]⟩,
  ⟨.alr, [(0x4B, .immediate, 2)]⟩,
  ⟨.arr, [(0x6B, .immediate, 2)]⟩,
  ⟨.sbx, [(0xCB, .immediate, 2)]⟩ ]

/-- The official instructions' lines, tier 1. -/
def Sys2Proof.officialLines : List EncodingLine := loadStoreLines ++ arithLogicLines ++ shiftControlLines ++ flagLines

/-- The 20 opcodes of R113, tier 3, with the mnemonic and mode R115 prints for each. -/
def Sys2Proof.unimplementedOpcodes : List (Byte × Mnemonic × Mode) :=
  [(0x02, .jam, .implied), (0x12, .jam, .implied), (0x22, .jam, .implied), (0x32, .jam, .implied), (0x42, .jam, .implied),
    (0x52, .jam, .implied), (0x62, .jam, .implied), (0x72, .jam, .implied), (0x92, .jam, .implied), (0xB2, .jam, .implied),
    (0xD2, .jam, .implied), (0xF2, .jam, .implied), (0x8B, .ane, .immediate), (0xAB, .lxa, .immediate),
    (0x93, .sha, .indirectIndexed), (0x9F, .sha, .absoluteY), (0x9E, .shx, .absoluteY), (0x9C, .shy, .absoluteX),
    (0x9B, .tas, .absoluteY), (0xBB, .las, .absoluteY)]

/-- R112 to R116: the opcodes of every instruction's own rule have that mnemonic, mode, tier and base cycle count in the table; those
of R114 are tier 2; those of R113 are tier 3 and have no count; these are all 256, so 151, 85 and 20. Length and page-cross flag
follow from mode and mnemonic (DecodeFollowsOpcodeTable, PageCrossFlagExactlyForIndexedReads). -/
def Obligations.TableColumnsFollowInstructionRules : Prop :=
  let agree := fun (tier : Tier) (lines : List EncodingLine) =>
    ∀ l ∈ lines, ∀ f ∈ l.forms,
      (entry f.1).mnemonic = l.mnemonic ∧ (entry f.1).mode = f.2.1 ∧ (entry f.1).cycles = some f.2.2 ∧ (entry f.1).tier = tier
  agree .official officialLines ∧ agree .unofficial unofficialLines ∧
  (∀ u ∈ unimplementedOpcodes,
    (entry u.1).mnemonic = u.2.1 ∧ (entry u.1).mode = u.2.2 ∧ (entry u.1).cycles = none ∧ (entry u.1).tier = .unimplemented) ∧
  (∀ op : Byte, (∃ l ∈ officialLines ++ unofficialLines, ∃ f ∈ l.forms, f.1 = op) ∨ ∃ u ∈ unimplementedOpcodes, u.1 = op) ∧
  opTable.countP (·.tier == .official) = 151 ∧ opTable.countP (·.tier == .unofficial) = 85 ∧
  opTable.countP (·.tier == .unimplemented) = 20
end

