-- ==== Sys2Proof/Laws/Memory.lean ====
section
/-! SUPPORT. Memory lists: read after write, and the canonical form, which every operation keeps and which makes equal memories
equal data. -/

namespace Sys2Proof.Machine

/-! ## Reading after a write -/

theorem Memory.get_erase (m : Memory) (a b : Nat) :
    (m.erase a).get b = if b = a then Config.unlistedByte else m.get b := by
  induction m with
  | nil => simp [Memory.erase, Memory.get]
  | cons c m ih =>
    obtain ⟨k, v⟩ := c
    by_cases hk : k = a
    · subst hk
      by_cases hb : b = k
      · subst hb; simpa [Memory.erase] using ih
      · simp [Memory.erase, Memory.get, ih, hb, Ne.symm hb]
    · by_cases hb : b = a
      · subst hb; simpa [Memory.erase, Memory.get, hk] using ih
      · simp [Memory.erase, Memory.get, hk, ih, hb]

theorem Memory.get_insert_ne {m : Memory} {a b : Nat} {v : Byte} (h : b ≠ a) : (m.insert a v).get b = m.get b := by
  induction m with
  | nil => simp [Memory.insert, Memory.get, Ne.symm h]
  | cons c m ih =>
    obtain ⟨k, w⟩ := c
    by_cases hk : a < k
    · simp [Memory.insert, Memory.get, hk, Ne.symm h]
    · simp [Memory.insert, Memory.get, hk, ih]

theorem Memory.get_insert_erase_self (m : Memory) (a : Nat) (v : Byte) : ((m.erase a).insert a v).get a = v := by
  induction m with
  | nil => simp [Memory.erase, Memory.insert, Memory.get]
  | cons c m ih =>
    obtain ⟨k, w⟩ := c
    by_cases hk : k = a
    · simpa [Memory.erase, hk] using ih
    · by_cases hlt : a < k
      · simp [Memory.erase, Memory.insert, Memory.get, hk, hlt]
      · simpa [Memory.erase, Memory.insert, Memory.get, hk, hlt] using ih

/-- A read after a write: the written byte at the written address, every other address as before. -/
theorem Memory.get_set (m : Memory) (a b : Nat) (v : Byte) :
    (m.set a v).get b = if b = a then v else m.get b := by
  unfold Memory.set
  split
  · next hv => simp [Memory.get_erase, hv]
  · by_cases hb : b = a
    · subst hb; simp [Memory.get_insert_erase_self]
    · simp [Memory.get_insert_ne hb, Memory.get_erase, hb]

/-! ## The canonical form -/

theorem Memory.risingFrom_mono {m : Memory} {lo lo' : Nat} (h : lo' ≤ lo) (hm : m.risingFrom lo = true) :
    m.risingFrom lo' = true := by
  cases m with
  | nil => rfl
  | cons c m =>
    simp only [Memory.risingFrom, Bool.and_eq_true, decide_eq_true_eq] at hm ⊢
    exact ⟨Nat.le_trans h hm.1, hm.2⟩

theorem Memory.risingFrom_erase {m : Memory} {lo a : Nat} (hm : m.risingFrom lo = true) :
    (m.erase a).risingFrom lo = true := by
  induction m generalizing lo with
  | nil => rfl
  | cons c m ih =>
    obtain ⟨k, v⟩ := c
    simp only [Memory.risingFrom, Bool.and_eq_true, decide_eq_true_eq] at hm
    by_cases hk : k = a
    · simpa [Memory.erase, hk] using Memory.risingFrom_mono (by omega) (ih hm.2)
    · simpa [Memory.erase, hk, Memory.risingFrom, hm.1] using ih hm.2

theorem Memory.erase_ne {m : Memory} {a : Nat} {c : Host.Cell} (h : c ∈ m.erase a) : c ∈ m ∧ c.1 ≠ a := by
  induction m with
  | nil => simp [Memory.erase] at h
  | cons d m ih =>
    obtain ⟨k, v⟩ := d
    by_cases hk : k = a
    · simp only [Memory.erase, hk, if_true] at h
      exact ⟨.tail _ (ih h).1, (ih h).2⟩
    · simp only [Memory.erase, hk, if_false, List.mem_cons] at h
      obtain rfl | h := h
      · exact ⟨.head _, hk⟩
      · exact ⟨.tail _ (ih h).1, (ih h).2⟩

theorem Memory.mem_insert {m : Memory} {a : Nat} {v : Byte} {c : Host.Cell} (h : c ∈ m.insert a v) :
    c = (a, v) ∨ c ∈ m := by
  induction m with
  | nil => simpa [Memory.insert] using h
  | cons d m ih =>
    obtain ⟨k, w⟩ := d
    by_cases hk : a < k
    · simpa [Memory.insert, hk] using h
    · simp only [Memory.insert, hk, if_false, List.mem_cons] at h
      obtain rfl | h := h
      · exact .inr (.head _)
      · exact (ih h).imp_right (.tail _)

theorem Memory.risingFrom_insert {m : Memory} {lo a : Nat} {v : Byte} (hm : m.risingFrom lo = true) (hlo : lo ≤ a)
    (hne : ∀ c ∈ m, c.1 ≠ a) : (m.insert a v).risingFrom lo = true := by
  induction m generalizing lo with
  | nil => simp [Memory.insert, Memory.risingFrom, hlo]
  | cons d m ih =>
    obtain ⟨k, w⟩ := d
    simp only [Memory.risingFrom, Bool.and_eq_true, decide_eq_true_eq] at hm
    by_cases hk : a < k
    · simp [Memory.insert, hk, Memory.risingFrom, hlo, hm.2, Nat.succ_le_of_lt hk]
    · have hka : k ≠ a := hne (k, w) (.head _)
      have := ih hm.2 (by omega) (fun c hc => hne c (.tail _ hc))
      simpa [Memory.insert, hk, Memory.risingFrom, hm.1] using this

/-- A write keeps the canonical form. -/
theorem Memory.wf_set {m : Memory} {bound a : Nat} {v : Byte} (hm : m.wf bound = true) (ha : a < bound) :
    (m.set a v).wf bound = true := by
  simp only [Memory.wf, Bool.and_eq_true, List.all_eq_true, decide_eq_true_eq] at hm ⊢
  have hall : ∀ c ∈ m.erase a, c.1 < bound ∧ c.2 ≠ Config.unlistedByte := fun c hc => hm.2 c (Memory.erase_ne hc).1
  unfold Memory.set
  split
  · exact ⟨Memory.risingFrom_erase hm.1, hall⟩
  · next hv =>
    refine ⟨Memory.risingFrom_insert (Memory.risingFrom_erase hm.1) (Nat.zero_le _) (fun c hc => (Memory.erase_ne hc).2), ?_⟩
    intro c hc
    obtain rfl | hc := Memory.mem_insert hc
    · exact ⟨ha, hv⟩
    · exact hall c hc

theorem Memory.risingFrom_le {m : Memory} {lo : Nat} (hm : m.risingFrom lo = true) : ∀ c ∈ m, lo ≤ c.1 := by
  induction m generalizing lo with
  | nil => simp
  | cons d m ih =>
    obtain ⟨k, w⟩ := d
    simp only [Memory.risingFrom, Bool.and_eq_true, decide_eq_true_eq] at hm
    intro c hc
    obtain rfl | hc := List.mem_cons.1 hc
    · exact hm.1
    · exact Nat.le_trans (Nat.le_succ_of_le hm.1) (ih hm.2 c hc)

theorem Memory.get_of_all_ne {m : Memory} {a : Nat} (h : ∀ c ∈ m, c.1 ≠ a) : m.get a = Config.unlistedByte := by
  induction m with
  | nil => rfl
  | cons d m ih =>
    obtain ⟨k, w⟩ := d
    have hk : k ≠ a := h (k, w) (.head _)
    simpa [Memory.get, hk] using ih (fun c hc => h c (.tail _ hc))

/-- Equal memories are equal data: a canonical memory is determined by what its addresses read as. -/
theorem Memory.ext_of_rising {m n : Memory} {lo : Nat} (hm : m.risingFrom lo = true) (hn : n.risingFrom lo = true)
    (hmv : ∀ c ∈ m, c.2 ≠ Config.unlistedByte) (hnv : ∀ c ∈ n, c.2 ≠ Config.unlistedByte)
    (h : ∀ a, m.get a = n.get a) : m = n := by
  induction m generalizing n lo with
  | nil =>
    cases n with
    | nil => rfl
    | cons d n =>
      have := h d.1
      simp [Memory.get] at this
      exact absurd this.symm (hnv d (.head _))
  | cons c m ih =>
    obtain ⟨k, v⟩ := c
    cases n with
    | nil =>
      have := h k
      simp [Memory.get] at this
      exact absurd this (hmv _ (.head _))
    | cons d n =>
      obtain ⟨j, w⟩ := d
      simp only [Memory.risingFrom, Bool.and_eq_true, decide_eq_true_eq] at hm hn
      have hmle := Memory.risingFrom_le hm.2
      have hnle := Memory.risingFrom_le hn.2
      have hkj : k = j := by
        by_contra hne
        rcases Nat.lt_or_gt_of_ne hne with hlt | hlt
        · have hk := h k
          have hout : Memory.get ((j, w) :: n) k = Config.unlistedByte := by
            apply Memory.get_of_all_ne
            intro e he
            obtain rfl | he := List.mem_cons.1 he
            · exact fun hh => hne hh.symm
            · exact fun hh => by have := hnle e he; omega
          rw [hout] at hk
          simp [Memory.get] at hk
          exact hmv _ (.head _) hk
        · have hk := h j
          have hout : Memory.get ((k, v) :: m) j = Config.unlistedByte := by
            apply Memory.get_of_all_ne
            intro e he
            obtain rfl | he := List.mem_cons.1 he
            · exact hne
            · exact fun hh => by have := hmle e he; omega
          rw [hout] at hk
          simp [Memory.get] at hk
          exact hnv _ (.head _) hk.symm
      subst hkj
      have hvw : v = w := by simpa [Memory.get] using h k
      subst hvw
      have hrest : m = n := by
        refine ih hm.2 hn.2 (fun c hc => hmv c (.tail _ hc)) (fun c hc => hnv c (.tail _ hc)) (fun a => ?_)
        by_cases ha : k = a
        · subst ha
          rw [Memory.get_of_all_ne (fun c hc hh => by have := hmle c hc; omega),
            Memory.get_of_all_ne (fun c hc hh => by have := hnle c hc; omega)]
        · simpa [Memory.get, ha] using h a
      rw [hrest]

/-- A byte string gives a canonical memory. -/
theorem Memory.wf_ofBytes (bs : List Byte) (bound : Nat) (h : bs.length ≤ bound) :
    (Memory.ofBytes 0 bs).wf bound = true := by
  have key : ∀ (bs : List Byte) (k lo : Nat), lo ≤ k → k + bs.length ≤ bound →
      (Memory.ofBytes k bs).risingFrom lo = true ∧
      ∀ c ∈ Memory.ofBytes k bs, c.1 < bound ∧ c.2 ≠ Config.unlistedByte := by
    intro bs
    induction bs with
    | nil => intro k lo _ _; simp [Memory.ofBytes, Memory.risingFrom]
    | cons b bs ih =>
      intro k lo hlo hk
      simp only [List.length_cons] at hk
      by_cases hb : b = Config.unlistedByte
      · simpa [Memory.ofBytes, hb] using ih (k + 1) lo (by omega) (by omega)
      · have := ih (k + 1) (k + 1) (Nat.le_refl _) (by omega)
        refine ⟨by simp [Memory.ofBytes, hb, Memory.risingFrom, hlo, this.1], ?_⟩
        intro c hc
        simp only [Memory.ofBytes, hb, if_false, List.mem_cons] at hc
        obtain rfl | hc := hc
        · exact ⟨by dsimp only; omega, hb⟩
        · exact this.2 c hc
  have := key bs 0 0 (Nat.le_refl _) (by omega)
  simp only [Memory.wf, Bool.and_eq_true, List.all_eq_true, decide_eq_true_eq]
  exact this

end Sys2Proof.Machine
end

