-- ==== Sys2Proof/Laws/State.lean ====
section
/-! SUPPORT. One lemma per field of State for each field update and for each operation that writes few fields, so that no proof
unfolds a record update. -/

namespace Sys2Proof.Machine

variable (s : State)

@[simp] theorem State.setA_a (v : Byte) : (s.setA v).a = v := rfl
@[simp] theorem State.setA_x (v : Byte) : (s.setA v).x = s.x := rfl
@[simp] theorem State.setA_y (v : Byte) : (s.setA v).y = s.y := rfl
@[simp] theorem State.setA_sp (v : Byte) : (s.setA v).sp = s.sp := rfl
@[simp] theorem State.setA_pc (v : Byte) : (s.setA v).pc = s.pc := rfl
@[simp] theorem State.setA_p (v : Byte) : (s.setA v).p = s.p := rfl
@[simp] theorem State.setA_cyc (v : Byte) : (s.setA v).cyc = s.cyc := rfl
@[simp] theorem State.setA_run (v : Byte) : (s.setA v).run = s.run := rfl
@[simp] theorem State.setA_haltReason (v : Byte) : (s.setA v).haltReason = s.haltReason := rfl
@[simp] theorem State.setA_nmiPending (v : Byte) : (s.setA v).nmiPending = s.nmiPending := rfl
@[simp] theorem State.setA_irqLevel (v : Byte) : (s.setA v).irqLevel = s.irqLevel := rfl
@[simp] theorem State.setA_ram (v : Byte) : (s.setA v).ram = s.ram := rfl
@[simp] theorem State.setA_prg (v : Byte) : (s.setA v).prg = s.prg := rfl
@[simp] theorem State.setA_prgSize (v : Byte) : (s.setA v).prgSize = s.prgSize := rfl
@[simp] theorem State.setA_hook (v : Byte) : (s.setA v).hook = s.hook := rfl
@[simp] theorem State.setA_params (v : Byte) : (s.setA v).params = s.params := rfl

@[simp] theorem State.setX_a (v : Byte) : (s.setX v).a = s.a := rfl
@[simp] theorem State.setX_x (v : Byte) : (s.setX v).x = v := rfl
@[simp] theorem State.setX_y (v : Byte) : (s.setX v).y = s.y := rfl
@[simp] theorem State.setX_sp (v : Byte) : (s.setX v).sp = s.sp := rfl
@[simp] theorem State.setX_pc (v : Byte) : (s.setX v).pc = s.pc := rfl
@[simp] theorem State.setX_p (v : Byte) : (s.setX v).p = s.p := rfl
@[simp] theorem State.setX_cyc (v : Byte) : (s.setX v).cyc = s.cyc := rfl
@[simp] theorem State.setX_run (v : Byte) : (s.setX v).run = s.run := rfl
@[simp] theorem State.setX_haltReason (v : Byte) : (s.setX v).haltReason = s.haltReason := rfl
@[simp] theorem State.setX_nmiPending (v : Byte) : (s.setX v).nmiPending = s.nmiPending := rfl
@[simp] theorem State.setX_irqLevel (v : Byte) : (s.setX v).irqLevel = s.irqLevel := rfl
@[simp] theorem State.setX_ram (v : Byte) : (s.setX v).ram = s.ram := rfl
@[simp] theorem State.setX_prg (v : Byte) : (s.setX v).prg = s.prg := rfl
@[simp] theorem State.setX_prgSize (v : Byte) : (s.setX v).prgSize = s.prgSize := rfl
@[simp] theorem State.setX_hook (v : Byte) : (s.setX v).hook = s.hook := rfl
@[simp] theorem State.setX_params (v : Byte) : (s.setX v).params = s.params := rfl

@[simp] theorem State.setY_a (v : Byte) : (s.setY v).a = s.a := rfl
@[simp] theorem State.setY_x (v : Byte) : (s.setY v).x = s.x := rfl
@[simp] theorem State.setY_y (v : Byte) : (s.setY v).y = v := rfl
@[simp] theorem State.setY_sp (v : Byte) : (s.setY v).sp = s.sp := rfl
@[simp] theorem State.setY_pc (v : Byte) : (s.setY v).pc = s.pc := rfl
@[simp] theorem State.setY_p (v : Byte) : (s.setY v).p = s.p := rfl
@[simp] theorem State.setY_cyc (v : Byte) : (s.setY v).cyc = s.cyc := rfl
@[simp] theorem State.setY_run (v : Byte) : (s.setY v).run = s.run := rfl
@[simp] theorem State.setY_haltReason (v : Byte) : (s.setY v).haltReason = s.haltReason := rfl
@[simp] theorem State.setY_nmiPending (v : Byte) : (s.setY v).nmiPending = s.nmiPending := rfl
@[simp] theorem State.setY_irqLevel (v : Byte) : (s.setY v).irqLevel = s.irqLevel := rfl
@[simp] theorem State.setY_ram (v : Byte) : (s.setY v).ram = s.ram := rfl
@[simp] theorem State.setY_prg (v : Byte) : (s.setY v).prg = s.prg := rfl
@[simp] theorem State.setY_prgSize (v : Byte) : (s.setY v).prgSize = s.prgSize := rfl
@[simp] theorem State.setY_hook (v : Byte) : (s.setY v).hook = s.hook := rfl
@[simp] theorem State.setY_params (v : Byte) : (s.setY v).params = s.params := rfl

@[simp] theorem State.setSp_a (v : Byte) : (s.setSp v).a = s.a := rfl
@[simp] theorem State.setSp_x (v : Byte) : (s.setSp v).x = s.x := rfl
@[simp] theorem State.setSp_y (v : Byte) : (s.setSp v).y = s.y := rfl
@[simp] theorem State.setSp_sp (v : Byte) : (s.setSp v).sp = v := rfl
@[simp] theorem State.setSp_pc (v : Byte) : (s.setSp v).pc = s.pc := rfl
@[simp] theorem State.setSp_p (v : Byte) : (s.setSp v).p = s.p := rfl
@[simp] theorem State.setSp_cyc (v : Byte) : (s.setSp v).cyc = s.cyc := rfl
@[simp] theorem State.setSp_run (v : Byte) : (s.setSp v).run = s.run := rfl
@[simp] theorem State.setSp_haltReason (v : Byte) : (s.setSp v).haltReason = s.haltReason := rfl
@[simp] theorem State.setSp_nmiPending (v : Byte) : (s.setSp v).nmiPending = s.nmiPending := rfl
@[simp] theorem State.setSp_irqLevel (v : Byte) : (s.setSp v).irqLevel = s.irqLevel := rfl
@[simp] theorem State.setSp_ram (v : Byte) : (s.setSp v).ram = s.ram := rfl
@[simp] theorem State.setSp_prg (v : Byte) : (s.setSp v).prg = s.prg := rfl
@[simp] theorem State.setSp_prgSize (v : Byte) : (s.setSp v).prgSize = s.prgSize := rfl
@[simp] theorem State.setSp_hook (v : Byte) : (s.setSp v).hook = s.hook := rfl
@[simp] theorem State.setSp_params (v : Byte) : (s.setSp v).params = s.params := rfl

@[simp] theorem State.setPc_a (v : Addr) : (s.setPc v).a = s.a := rfl
@[simp] theorem State.setPc_x (v : Addr) : (s.setPc v).x = s.x := rfl
@[simp] theorem State.setPc_y (v : Addr) : (s.setPc v).y = s.y := rfl
@[simp] theorem State.setPc_sp (v : Addr) : (s.setPc v).sp = s.sp := rfl
@[simp] theorem State.setPc_pc (v : Addr) : (s.setPc v).pc = v := rfl
@[simp] theorem State.setPc_p (v : Addr) : (s.setPc v).p = s.p := rfl
@[simp] theorem State.setPc_cyc (v : Addr) : (s.setPc v).cyc = s.cyc := rfl
@[simp] theorem State.setPc_run (v : Addr) : (s.setPc v).run = s.run := rfl
@[simp] theorem State.setPc_haltReason (v : Addr) : (s.setPc v).haltReason = s.haltReason := rfl
@[simp] theorem State.setPc_nmiPending (v : Addr) : (s.setPc v).nmiPending = s.nmiPending := rfl
@[simp] theorem State.setPc_irqLevel (v : Addr) : (s.setPc v).irqLevel = s.irqLevel := rfl
@[simp] theorem State.setPc_ram (v : Addr) : (s.setPc v).ram = s.ram := rfl
@[simp] theorem State.setPc_prg (v : Addr) : (s.setPc v).prg = s.prg := rfl
@[simp] theorem State.setPc_prgSize (v : Addr) : (s.setPc v).prgSize = s.prgSize := rfl
@[simp] theorem State.setPc_hook (v : Addr) : (s.setPc v).hook = s.hook := rfl
@[simp] theorem State.setPc_params (v : Addr) : (s.setPc v).params = s.params := rfl

@[simp] theorem State.setP_a (v : Byte) : (s.setP v).a = s.a := rfl
@[simp] theorem State.setP_x (v : Byte) : (s.setP v).x = s.x := rfl
@[simp] theorem State.setP_y (v : Byte) : (s.setP v).y = s.y := rfl
@[simp] theorem State.setP_sp (v : Byte) : (s.setP v).sp = s.sp := rfl
@[simp] theorem State.setP_pc (v : Byte) : (s.setP v).pc = s.pc := rfl
@[simp] theorem State.setP_p (v : Byte) : (s.setP v).p = v := rfl
@[simp] theorem State.setP_cyc (v : Byte) : (s.setP v).cyc = s.cyc := rfl
@[simp] theorem State.setP_run (v : Byte) : (s.setP v).run = s.run := rfl
@[simp] theorem State.setP_haltReason (v : Byte) : (s.setP v).haltReason = s.haltReason := rfl
@[simp] theorem State.setP_nmiPending (v : Byte) : (s.setP v).nmiPending = s.nmiPending := rfl
@[simp] theorem State.setP_irqLevel (v : Byte) : (s.setP v).irqLevel = s.irqLevel := rfl
@[simp] theorem State.setP_ram (v : Byte) : (s.setP v).ram = s.ram := rfl
@[simp] theorem State.setP_prg (v : Byte) : (s.setP v).prg = s.prg := rfl
@[simp] theorem State.setP_prgSize (v : Byte) : (s.setP v).prgSize = s.prgSize := rfl
@[simp] theorem State.setP_hook (v : Byte) : (s.setP v).hook = s.hook := rfl
@[simp] theorem State.setP_params (v : Byte) : (s.setP v).params = s.params := rfl

@[simp] theorem State.addCycles_a (n : Nat) : (s.addCycles n).a = s.a := rfl
@[simp] theorem State.addCycles_x (n : Nat) : (s.addCycles n).x = s.x := rfl
@[simp] theorem State.addCycles_y (n : Nat) : (s.addCycles n).y = s.y := rfl
@[simp] theorem State.addCycles_sp (n : Nat) : (s.addCycles n).sp = s.sp := rfl
@[simp] theorem State.addCycles_pc (n : Nat) : (s.addCycles n).pc = s.pc := rfl
@[simp] theorem State.addCycles_p (n : Nat) : (s.addCycles n).p = s.p := rfl
@[simp] theorem State.addCycles_cyc (n : Nat) : (s.addCycles n).cyc = s.cyc + n := rfl
@[simp] theorem State.addCycles_run (n : Nat) : (s.addCycles n).run = s.run := rfl
@[simp] theorem State.addCycles_haltReason (n : Nat) : (s.addCycles n).haltReason = s.haltReason := rfl
@[simp] theorem State.addCycles_nmiPending (n : Nat) : (s.addCycles n).nmiPending = s.nmiPending := rfl
@[simp] theorem State.addCycles_irqLevel (n : Nat) : (s.addCycles n).irqLevel = s.irqLevel := rfl
@[simp] theorem State.addCycles_ram (n : Nat) : (s.addCycles n).ram = s.ram := rfl
@[simp] theorem State.addCycles_prg (n : Nat) : (s.addCycles n).prg = s.prg := rfl
@[simp] theorem State.addCycles_prgSize (n : Nat) : (s.addCycles n).prgSize = s.prgSize := rfl
@[simp] theorem State.addCycles_hook (n : Nat) : (s.addCycles n).hook = s.hook := rfl
@[simp] theorem State.addCycles_params (n : Nat) : (s.addCycles n).params = s.params := rfl

@[simp] theorem State.setRun_a (r : RunState) : (s.setRun r).a = s.a := rfl
@[simp] theorem State.setRun_x (r : RunState) : (s.setRun r).x = s.x := rfl
@[simp] theorem State.setRun_y (r : RunState) : (s.setRun r).y = s.y := rfl
@[simp] theorem State.setRun_sp (r : RunState) : (s.setRun r).sp = s.sp := rfl
@[simp] theorem State.setRun_pc (r : RunState) : (s.setRun r).pc = s.pc := rfl
@[simp] theorem State.setRun_p (r : RunState) : (s.setRun r).p = s.p := rfl
@[simp] theorem State.setRun_cyc (r : RunState) : (s.setRun r).cyc = s.cyc := rfl
@[simp] theorem State.setRun_run (r : RunState) : (s.setRun r).run = r := rfl
@[simp] theorem State.setRun_haltReason (r : RunState) : (s.setRun r).haltReason = s.haltReason := rfl
@[simp] theorem State.setRun_nmiPending (r : RunState) : (s.setRun r).nmiPending = s.nmiPending := rfl
@[simp] theorem State.setRun_irqLevel (r : RunState) : (s.setRun r).irqLevel = s.irqLevel := rfl
@[simp] theorem State.setRun_ram (r : RunState) : (s.setRun r).ram = s.ram := rfl
@[simp] theorem State.setRun_prg (r : RunState) : (s.setRun r).prg = s.prg := rfl
@[simp] theorem State.setRun_prgSize (r : RunState) : (s.setRun r).prgSize = s.prgSize := rfl
@[simp] theorem State.setRun_hook (r : RunState) : (s.setRun r).hook = s.hook := rfl
@[simp] theorem State.setRun_params (r : RunState) : (s.setRun r).params = s.params := rfl

@[simp] theorem State.setHaltReason_a (r : HaltReason) : (s.setHaltReason r).a = s.a := rfl
@[simp] theorem State.setHaltReason_x (r : HaltReason) : (s.setHaltReason r).x = s.x := rfl
@[simp] theorem State.setHaltReason_y (r : HaltReason) : (s.setHaltReason r).y = s.y := rfl
@[simp] theorem State.setHaltReason_sp (r : HaltReason) : (s.setHaltReason r).sp = s.sp := rfl
@[simp] theorem State.setHaltReason_pc (r : HaltReason) : (s.setHaltReason r).pc = s.pc := rfl
@[simp] theorem State.setHaltReason_p (r : HaltReason) : (s.setHaltReason r).p = s.p := rfl
@[simp] theorem State.setHaltReason_cyc (r : HaltReason) : (s.setHaltReason r).cyc = s.cyc := rfl
@[simp] theorem State.setHaltReason_run (r : HaltReason) : (s.setHaltReason r).run = s.run := rfl
@[simp] theorem State.setHaltReason_haltReason (r : HaltReason) : (s.setHaltReason r).haltReason = r := rfl
@[simp] theorem State.setHaltReason_nmiPending (r : HaltReason) : (s.setHaltReason r).nmiPending = s.nmiPending := rfl
@[simp] theorem State.setHaltReason_irqLevel (r : HaltReason) : (s.setHaltReason r).irqLevel = s.irqLevel := rfl
@[simp] theorem State.setHaltReason_ram (r : HaltReason) : (s.setHaltReason r).ram = s.ram := rfl
@[simp] theorem State.setHaltReason_prg (r : HaltReason) : (s.setHaltReason r).prg = s.prg := rfl
@[simp] theorem State.setHaltReason_prgSize (r : HaltReason) : (s.setHaltReason r).prgSize = s.prgSize := rfl
@[simp] theorem State.setHaltReason_hook (r : HaltReason) : (s.setHaltReason r).hook = s.hook := rfl
@[simp] theorem State.setHaltReason_params (r : HaltReason) : (s.setHaltReason r).params = s.params := rfl

@[simp] theorem State.setNmiPending_a (on : Bool) : (s.setNmiPending on).a = s.a := rfl
@[simp] theorem State.setNmiPending_x (on : Bool) : (s.setNmiPending on).x = s.x := rfl
@[simp] theorem State.setNmiPending_y (on : Bool) : (s.setNmiPending on).y = s.y := rfl
@[simp] theorem State.setNmiPending_sp (on : Bool) : (s.setNmiPending on).sp = s.sp := rfl
@[simp] theorem State.setNmiPending_pc (on : Bool) : (s.setNmiPending on).pc = s.pc := rfl
@[simp] theorem State.setNmiPending_p (on : Bool) : (s.setNmiPending on).p = s.p := rfl
@[simp] theorem State.setNmiPending_cyc (on : Bool) : (s.setNmiPending on).cyc = s.cyc := rfl
@[simp] theorem State.setNmiPending_run (on : Bool) : (s.setNmiPending on).run = s.run := rfl
@[simp] theorem State.setNmiPending_haltReason (on : Bool) : (s.setNmiPending on).haltReason = s.haltReason := rfl
@[simp] theorem State.setNmiPending_nmiPending (on : Bool) : (s.setNmiPending on).nmiPending = on := rfl
@[simp] theorem State.setNmiPending_irqLevel (on : Bool) : (s.setNmiPending on).irqLevel = s.irqLevel := rfl
@[simp] theorem State.setNmiPending_ram (on : Bool) : (s.setNmiPending on).ram = s.ram := rfl
@[simp] theorem State.setNmiPending_prg (on : Bool) : (s.setNmiPending on).prg = s.prg := rfl
@[simp] theorem State.setNmiPending_prgSize (on : Bool) : (s.setNmiPending on).prgSize = s.prgSize := rfl
@[simp] theorem State.setNmiPending_hook (on : Bool) : (s.setNmiPending on).hook = s.hook := rfl
@[simp] theorem State.setNmiPending_params (on : Bool) : (s.setNmiPending on).params = s.params := rfl

@[simp] theorem State.setIrqLevel_a (on : Bool) : (s.setIrqLevel on).a = s.a := rfl
@[simp] theorem State.setIrqLevel_x (on : Bool) : (s.setIrqLevel on).x = s.x := rfl
@[simp] theorem State.setIrqLevel_y (on : Bool) : (s.setIrqLevel on).y = s.y := rfl
@[simp] theorem State.setIrqLevel_sp (on : Bool) : (s.setIrqLevel on).sp = s.sp := rfl
@[simp] theorem State.setIrqLevel_pc (on : Bool) : (s.setIrqLevel on).pc = s.pc := rfl
@[simp] theorem State.setIrqLevel_p (on : Bool) : (s.setIrqLevel on).p = s.p := rfl
@[simp] theorem State.setIrqLevel_cyc (on : Bool) : (s.setIrqLevel on).cyc = s.cyc := rfl
@[simp] theorem State.setIrqLevel_run (on : Bool) : (s.setIrqLevel on).run = s.run := rfl
@[simp] theorem State.setIrqLevel_haltReason (on : Bool) : (s.setIrqLevel on).haltReason = s.haltReason := rfl
@[simp] theorem State.setIrqLevel_nmiPending (on : Bool) : (s.setIrqLevel on).nmiPending = s.nmiPending := rfl
@[simp] theorem State.setIrqLevel_irqLevel (on : Bool) : (s.setIrqLevel on).irqLevel = on := rfl
@[simp] theorem State.setIrqLevel_ram (on : Bool) : (s.setIrqLevel on).ram = s.ram := rfl
@[simp] theorem State.setIrqLevel_prg (on : Bool) : (s.setIrqLevel on).prg = s.prg := rfl
@[simp] theorem State.setIrqLevel_prgSize (on : Bool) : (s.setIrqLevel on).prgSize = s.prgSize := rfl
@[simp] theorem State.setIrqLevel_hook (on : Bool) : (s.setIrqLevel on).hook = s.hook := rfl
@[simp] theorem State.setIrqLevel_params (on : Bool) : (s.setIrqLevel on).params = s.params := rfl

@[simp] theorem State.setRam_a (m : Memory) : (s.setRam m).a = s.a := rfl
@[simp] theorem State.setRam_x (m : Memory) : (s.setRam m).x = s.x := rfl
@[simp] theorem State.setRam_y (m : Memory) : (s.setRam m).y = s.y := rfl
@[simp] theorem State.setRam_sp (m : Memory) : (s.setRam m).sp = s.sp := rfl
@[simp] theorem State.setRam_pc (m : Memory) : (s.setRam m).pc = s.pc := rfl
@[simp] theorem State.setRam_p (m : Memory) : (s.setRam m).p = s.p := rfl
@[simp] theorem State.setRam_cyc (m : Memory) : (s.setRam m).cyc = s.cyc := rfl
@[simp] theorem State.setRam_run (m : Memory) : (s.setRam m).run = s.run := rfl
@[simp] theorem State.setRam_haltReason (m : Memory) : (s.setRam m).haltReason = s.haltReason := rfl
@[simp] theorem State.setRam_nmiPending (m : Memory) : (s.setRam m).nmiPending = s.nmiPending := rfl
@[simp] theorem State.setRam_irqLevel (m : Memory) : (s.setRam m).irqLevel = s.irqLevel := rfl
@[simp] theorem State.setRam_ram (m : Memory) : (s.setRam m).ram = m := rfl
@[simp] theorem State.setRam_prg (m : Memory) : (s.setRam m).prg = s.prg := rfl
@[simp] theorem State.setRam_prgSize (m : Memory) : (s.setRam m).prgSize = s.prgSize := rfl
@[simp] theorem State.setRam_hook (m : Memory) : (s.setRam m).hook = s.hook := rfl
@[simp] theorem State.setRam_params (m : Memory) : (s.setRam m).params = s.params := rfl

@[simp] theorem State.setPrg_a (m : Memory) : (s.setPrg m).a = s.a := rfl
@[simp] theorem State.setPrg_x (m : Memory) : (s.setPrg m).x = s.x := rfl
@[simp] theorem State.setPrg_y (m : Memory) : (s.setPrg m).y = s.y := rfl
@[simp] theorem State.setPrg_sp (m : Memory) : (s.setPrg m).sp = s.sp := rfl
@[simp] theorem State.setPrg_pc (m : Memory) : (s.setPrg m).pc = s.pc := rfl
@[simp] theorem State.setPrg_p (m : Memory) : (s.setPrg m).p = s.p := rfl
@[simp] theorem State.setPrg_cyc (m : Memory) : (s.setPrg m).cyc = s.cyc := rfl
@[simp] theorem State.setPrg_run (m : Memory) : (s.setPrg m).run = s.run := rfl
@[simp] theorem State.setPrg_haltReason (m : Memory) : (s.setPrg m).haltReason = s.haltReason := rfl
@[simp] theorem State.setPrg_nmiPending (m : Memory) : (s.setPrg m).nmiPending = s.nmiPending := rfl
@[simp] theorem State.setPrg_irqLevel (m : Memory) : (s.setPrg m).irqLevel = s.irqLevel := rfl
@[simp] theorem State.setPrg_ram (m : Memory) : (s.setPrg m).ram = s.ram := rfl
@[simp] theorem State.setPrg_prg (m : Memory) : (s.setPrg m).prg = m := rfl
@[simp] theorem State.setPrg_prgSize (m : Memory) : (s.setPrg m).prgSize = s.prgSize := rfl
@[simp] theorem State.setPrg_hook (m : Memory) : (s.setPrg m).hook = s.hook := rfl
@[simp] theorem State.setPrg_params (m : Memory) : (s.setPrg m).params = s.params := rfl

@[simp] theorem State.setHook_a (h : List (List HostWrite)) : (s.setHook h).a = s.a := rfl
@[simp] theorem State.setHook_x (h : List (List HostWrite)) : (s.setHook h).x = s.x := rfl
@[simp] theorem State.setHook_y (h : List (List HostWrite)) : (s.setHook h).y = s.y := rfl
@[simp] theorem State.setHook_sp (h : List (List HostWrite)) : (s.setHook h).sp = s.sp := rfl
@[simp] theorem State.setHook_pc (h : List (List HostWrite)) : (s.setHook h).pc = s.pc := rfl
@[simp] theorem State.setHook_p (h : List (List HostWrite)) : (s.setHook h).p = s.p := rfl
@[simp] theorem State.setHook_cyc (h : List (List HostWrite)) : (s.setHook h).cyc = s.cyc := rfl
@[simp] theorem State.setHook_run (h : List (List HostWrite)) : (s.setHook h).run = s.run := rfl
@[simp] theorem State.setHook_haltReason (h : List (List HostWrite)) : (s.setHook h).haltReason = s.haltReason := rfl
@[simp] theorem State.setHook_nmiPending (h : List (List HostWrite)) : (s.setHook h).nmiPending = s.nmiPending := rfl
@[simp] theorem State.setHook_irqLevel (h : List (List HostWrite)) : (s.setHook h).irqLevel = s.irqLevel := rfl
@[simp] theorem State.setHook_ram (h : List (List HostWrite)) : (s.setHook h).ram = s.ram := rfl
@[simp] theorem State.setHook_prg (h : List (List HostWrite)) : (s.setHook h).prg = s.prg := rfl
@[simp] theorem State.setHook_prgSize (h : List (List HostWrite)) : (s.setHook h).prgSize = s.prgSize := rfl
@[simp] theorem State.setHook_hook (h : List (List HostWrite)) : (s.setHook h).hook = h := rfl
@[simp] theorem State.setHook_params (h : List (List HostWrite)) : (s.setHook h).params = s.params := rfl

/-! ## P alone -/

@[simp] theorem State.setFlag_a (f : Flag) (on : Bool) : (s.setFlag f on).a = s.a := rfl
@[simp] theorem State.setFlag_x (f : Flag) (on : Bool) : (s.setFlag f on).x = s.x := rfl
@[simp] theorem State.setFlag_y (f : Flag) (on : Bool) : (s.setFlag f on).y = s.y := rfl
@[simp] theorem State.setFlag_sp (f : Flag) (on : Bool) : (s.setFlag f on).sp = s.sp := rfl
@[simp] theorem State.setFlag_pc (f : Flag) (on : Bool) : (s.setFlag f on).pc = s.pc := rfl
@[simp] theorem State.setFlag_p (f : Flag) (on : Bool) : (s.setFlag f on).p = Machine.setFlag s.p f on := rfl
@[simp] theorem State.setFlag_cyc (f : Flag) (on : Bool) : (s.setFlag f on).cyc = s.cyc := rfl
@[simp] theorem State.setFlag_run (f : Flag) (on : Bool) : (s.setFlag f on).run = s.run := rfl
@[simp] theorem State.setFlag_haltReason (f : Flag) (on : Bool) : (s.setFlag f on).haltReason = s.haltReason := rfl
@[simp] theorem State.setFlag_nmiPending (f : Flag) (on : Bool) : (s.setFlag f on).nmiPending = s.nmiPending := rfl
@[simp] theorem State.setFlag_irqLevel (f : Flag) (on : Bool) : (s.setFlag f on).irqLevel = s.irqLevel := rfl
@[simp] theorem State.setFlag_ram (f : Flag) (on : Bool) : (s.setFlag f on).ram = s.ram := rfl
@[simp] theorem State.setFlag_prg (f : Flag) (on : Bool) : (s.setFlag f on).prg = s.prg := rfl
@[simp] theorem State.setFlag_prgSize (f : Flag) (on : Bool) : (s.setFlag f on).prgSize = s.prgSize := rfl
@[simp] theorem State.setFlag_hook (f : Flag) (on : Bool) : (s.setFlag f on).hook = s.hook := rfl
@[simp] theorem State.setFlag_params (f : Flag) (on : Bool) : (s.setFlag f on).params = s.params := rfl

@[simp] theorem State.setNZ_a (v : Byte) : (s.setNZ v).a = s.a := rfl
@[simp] theorem State.setNZ_x (v : Byte) : (s.setNZ v).x = s.x := rfl
@[simp] theorem State.setNZ_y (v : Byte) : (s.setNZ v).y = s.y := rfl
@[simp] theorem State.setNZ_sp (v : Byte) : (s.setNZ v).sp = s.sp := rfl
@[simp] theorem State.setNZ_pc (v : Byte) : (s.setNZ v).pc = s.pc := rfl
@[simp] theorem State.setNZ_p (v : Byte) : (s.setNZ v).p = Machine.setNZ s.p v := rfl
@[simp] theorem State.setNZ_cyc (v : Byte) : (s.setNZ v).cyc = s.cyc := rfl
@[simp] theorem State.setNZ_run (v : Byte) : (s.setNZ v).run = s.run := rfl
@[simp] theorem State.setNZ_haltReason (v : Byte) : (s.setNZ v).haltReason = s.haltReason := rfl
@[simp] theorem State.setNZ_nmiPending (v : Byte) : (s.setNZ v).nmiPending = s.nmiPending := rfl
@[simp] theorem State.setNZ_irqLevel (v : Byte) : (s.setNZ v).irqLevel = s.irqLevel := rfl
@[simp] theorem State.setNZ_ram (v : Byte) : (s.setNZ v).ram = s.ram := rfl
@[simp] theorem State.setNZ_prg (v : Byte) : (s.setNZ v).prg = s.prg := rfl
@[simp] theorem State.setNZ_prgSize (v : Byte) : (s.setNZ v).prgSize = s.prgSize := rfl
@[simp] theorem State.setNZ_hook (v : Byte) : (s.setNZ v).hook = s.hook := rfl
@[simp] theorem State.setNZ_params (v : Byte) : (s.setNZ v).params = s.params := rfl

/-! ## RAM alone: the bus write -/

@[simp] theorem writeByte_a (b : Addr) (v : Byte) : (writeByte s b v).a = s.a := by
  unfold writeByte; split <;> rfl
@[simp] theorem writeByte_x (b : Addr) (v : Byte) : (writeByte s b v).x = s.x := by
  unfold writeByte; split <;> rfl
@[simp] theorem writeByte_y (b : Addr) (v : Byte) : (writeByte s b v).y = s.y := by
  unfold writeByte; split <;> rfl
@[simp] theorem writeByte_sp (b : Addr) (v : Byte) : (writeByte s b v).sp = s.sp := by
  unfold writeByte; split <;> rfl
@[simp] theorem writeByte_pc (b : Addr) (v : Byte) : (writeByte s b v).pc = s.pc := by
  unfold writeByte; split <;> rfl
@[simp] theorem writeByte_p (b : Addr) (v : Byte) : (writeByte s b v).p = s.p := by
  unfold writeByte; split <;> rfl
@[simp] theorem writeByte_cyc (b : Addr) (v : Byte) : (writeByte s b v).cyc = s.cyc := by
  unfold writeByte; split <;> rfl
@[simp] theorem writeByte_run (b : Addr) (v : Byte) : (writeByte s b v).run = s.run := by
  unfold writeByte; split <;> rfl
@[simp] theorem writeByte_haltReason (b : Addr) (v : Byte) : (writeByte s b v).haltReason = s.haltReason := by
  unfold writeByte; split <;> rfl
@[simp] theorem writeByte_nmiPending (b : Addr) (v : Byte) : (writeByte s b v).nmiPending = s.nmiPending := by
  unfold writeByte; split <;> rfl
@[simp] theorem writeByte_irqLevel (b : Addr) (v : Byte) : (writeByte s b v).irqLevel = s.irqLevel := by
  unfold writeByte; split <;> rfl
@[simp] theorem writeByte_prg (b : Addr) (v : Byte) : (writeByte s b v).prg = s.prg := by
  unfold writeByte; split <;> rfl
@[simp] theorem writeByte_prgSize (b : Addr) (v : Byte) : (writeByte s b v).prgSize = s.prgSize := by
  unfold writeByte; split <;> rfl
@[simp] theorem writeByte_hook (b : Addr) (v : Byte) : (writeByte s b v).hook = s.hook := by
  unfold writeByte; split <;> rfl
@[simp] theorem writeByte_params (b : Addr) (v : Byte) : (writeByte s b v).params = s.params := by
  unfold writeByte; split <;> rfl

/-! ## RAM and SP: the stack -/

@[simp] theorem push8_a (v : Byte) : (push8 s v).a = s.a := by simp [push8]
@[simp] theorem push8_x (v : Byte) : (push8 s v).x = s.x := by simp [push8]
@[simp] theorem push8_y (v : Byte) : (push8 s v).y = s.y := by simp [push8]
@[simp] theorem push8_pc (v : Byte) : (push8 s v).pc = s.pc := by simp [push8]
@[simp] theorem push8_p (v : Byte) : (push8 s v).p = s.p := by simp [push8]
@[simp] theorem push8_cyc (v : Byte) : (push8 s v).cyc = s.cyc := by simp [push8]
@[simp] theorem push8_run (v : Byte) : (push8 s v).run = s.run := by simp [push8]
@[simp] theorem push8_haltReason (v : Byte) : (push8 s v).haltReason = s.haltReason := by simp [push8]
@[simp] theorem push8_nmiPending (v : Byte) : (push8 s v).nmiPending = s.nmiPending := by simp [push8]
@[simp] theorem push8_irqLevel (v : Byte) : (push8 s v).irqLevel = s.irqLevel := by simp [push8]
@[simp] theorem push8_prg (v : Byte) : (push8 s v).prg = s.prg := by simp [push8]
@[simp] theorem push8_prgSize (v : Byte) : (push8 s v).prgSize = s.prgSize := by simp [push8]
@[simp] theorem push8_hook (v : Byte) : (push8 s v).hook = s.hook := by simp [push8]
@[simp] theorem push8_params (v : Byte) : (push8 s v).params = s.params := by simp [push8]
@[simp] theorem push8_sp (v : Byte) : (push8 s v).sp = s.sp - 1 := by simp [push8]

@[simp] theorem push16_a (w : Addr) : (push16 s w).a = s.a := by simp [push16]
@[simp] theorem push16_x (w : Addr) : (push16 s w).x = s.x := by simp [push16]
@[simp] theorem push16_y (w : Addr) : (push16 s w).y = s.y := by simp [push16]
@[simp] theorem push16_pc (w : Addr) : (push16 s w).pc = s.pc := by simp [push16]
@[simp] theorem push16_p (w : Addr) : (push16 s w).p = s.p := by simp [push16]
@[simp] theorem push16_cyc (w : Addr) : (push16 s w).cyc = s.cyc := by simp [push16]
@[simp] theorem push16_run (w : Addr) : (push16 s w).run = s.run := by simp [push16]
@[simp] theorem push16_haltReason (w : Addr) : (push16 s w).haltReason = s.haltReason := by simp [push16]
@[simp] theorem push16_nmiPending (w : Addr) : (push16 s w).nmiPending = s.nmiPending := by simp [push16]
@[simp] theorem push16_irqLevel (w : Addr) : (push16 s w).irqLevel = s.irqLevel := by simp [push16]
@[simp] theorem push16_prg (w : Addr) : (push16 s w).prg = s.prg := by simp [push16]
@[simp] theorem push16_prgSize (w : Addr) : (push16 s w).prgSize = s.prgSize := by simp [push16]
@[simp] theorem push16_hook (w : Addr) : (push16 s w).hook = s.hook := by simp [push16]
@[simp] theorem push16_params (w : Addr) : (push16 s w).params = s.params := by simp [push16]
@[simp] theorem push16_sp (w : Addr) : (push16 s w).sp = s.sp - 1 - 1 := by simp [push16]

@[simp] theorem pull8_a : (pull8 s).a = s.a := rfl
@[simp] theorem pull8_x : (pull8 s).x = s.x := rfl
@[simp] theorem pull8_y : (pull8 s).y = s.y := rfl
@[simp] theorem pull8_pc : (pull8 s).pc = s.pc := rfl
@[simp] theorem pull8_p : (pull8 s).p = s.p := rfl
@[simp] theorem pull8_cyc : (pull8 s).cyc = s.cyc := rfl
@[simp] theorem pull8_run : (pull8 s).run = s.run := rfl
@[simp] theorem pull8_haltReason : (pull8 s).haltReason = s.haltReason := rfl
@[simp] theorem pull8_nmiPending : (pull8 s).nmiPending = s.nmiPending := rfl
@[simp] theorem pull8_irqLevel : (pull8 s).irqLevel = s.irqLevel := rfl
@[simp] theorem pull8_ram : (pull8 s).ram = s.ram := rfl
@[simp] theorem pull8_prg : (pull8 s).prg = s.prg := rfl
@[simp] theorem pull8_prgSize : (pull8 s).prgSize = s.prgSize := rfl
@[simp] theorem pull8_hook : (pull8 s).hook = s.hook := rfl
@[simp] theorem pull8_params : (pull8 s).params = s.params := rfl
@[simp] theorem pull8_sp : (pull8 s).sp = s.sp + 1 := rfl

@[simp] theorem pull16_a : (pull16 s).a = s.a := rfl
@[simp] theorem pull16_x : (pull16 s).x = s.x := rfl
@[simp] theorem pull16_y : (pull16 s).y = s.y := rfl
@[simp] theorem pull16_pc : (pull16 s).pc = s.pc := rfl
@[simp] theorem pull16_p : (pull16 s).p = s.p := rfl
@[simp] theorem pull16_cyc : (pull16 s).cyc = s.cyc := rfl
@[simp] theorem pull16_run : (pull16 s).run = s.run := rfl
@[simp] theorem pull16_haltReason : (pull16 s).haltReason = s.haltReason := rfl
@[simp] theorem pull16_nmiPending : (pull16 s).nmiPending = s.nmiPending := rfl
@[simp] theorem pull16_irqLevel : (pull16 s).irqLevel = s.irqLevel := rfl
@[simp] theorem pull16_ram : (pull16 s).ram = s.ram := rfl
@[simp] theorem pull16_prg : (pull16 s).prg = s.prg := rfl
@[simp] theorem pull16_prgSize : (pull16 s).prgSize = s.prgSize := rfl
@[simp] theorem pull16_hook : (pull16 s).hook = s.hook := rfl
@[simp] theorem pull16_params : (pull16 s).params = s.params := rfl
@[simp] theorem pull16_sp : (pull16 s).sp = s.sp + 1 + 1 := rfl

/-! ## Halting -/

@[simp] theorem halt_a (r : HaltReason) : (halt r s).a = s.a := rfl
@[simp] theorem halt_x (r : HaltReason) : (halt r s).x = s.x := rfl
@[simp] theorem halt_y (r : HaltReason) : (halt r s).y = s.y := rfl
@[simp] theorem halt_sp (r : HaltReason) : (halt r s).sp = s.sp := rfl
@[simp] theorem halt_pc (r : HaltReason) : (halt r s).pc = s.pc := rfl
@[simp] theorem halt_p (r : HaltReason) : (halt r s).p = s.p := rfl
@[simp] theorem halt_cyc (r : HaltReason) : (halt r s).cyc = s.cyc := rfl
@[simp] theorem halt_run (r : HaltReason) : (halt r s).run = .halted := rfl
@[simp] theorem halt_haltReason (r : HaltReason) : (halt r s).haltReason = r := rfl
@[simp] theorem halt_nmiPending (r : HaltReason) : (halt r s).nmiPending = s.nmiPending := rfl
@[simp] theorem halt_irqLevel (r : HaltReason) : (halt r s).irqLevel = s.irqLevel := rfl
@[simp] theorem halt_ram (r : HaltReason) : (halt r s).ram = s.ram := rfl
@[simp] theorem halt_prg (r : HaltReason) : (halt r s).prg = s.prg := rfl
@[simp] theorem halt_prgSize (r : HaltReason) : (halt r s).prgSize = s.prgSize := rfl
@[simp] theorem halt_hook (r : HaltReason) : (halt r s).hook = s.hook := rfl
@[simp] theorem halt_params (r : HaltReason) : (halt r s).params = s.params := rfl

end Sys2Proof.Machine
end

