-- ==== Sys2Proof/Laws/Bus.lean ====
section
/-! SUPPORT. The bus region by region (20_memory.md R61, R62), and what a bus write does to RAM. -/

namespace Sys2Proof.Machine

/-- The physical cell of an address below 0x2000 is its low 11 bits (R63). -/
theorem ramCell_eq (addr : Addr) : ramCell addr = addr.toNat % 0x800 := by
  have : (addr &&& 0x07FF).toNat = addr.toNat &&& (2 ^ 11 - 1) := by simp
  rw [ramCell, this, Nat.and_two_pow_sub_one_eq_mod]

theorem ramCell_lt (addr : Addr) : ramCell addr < Config.ramBytes := by
  rw [ramCell_eq]; exact Nat.mod_lt _ (by decide)

theorem region_of_ram {size : PrgSize} {addr : Addr} (h : addr.toNat < 0x2000) :
    region size addr = .ram (ramCell addr) := by
  simp [region, show addr.toNat ≤ 0x1FFF by omega]

theorem region_of_prg {size : PrgSize} {addr : Addr} (h : 0x8000 ≤ addr.toNat) :
    region size addr = .prg (prgOffset size addr) := by
  simp [region, show ¬ addr.toNat ≤ 0x1FFF by omega, show ¬ addr.toNat ≤ 0x3FFF by omega,
    show ¬ addr.toNat ≤ 0x7FFF by omega]

theorem readByte_of_ram {s : State} {addr : Addr} (h : addr.toNat < 0x2000) :
    readByte s addr = s.ram.get (addr.toNat % 0x800) := by
  simp [readByte, region_of_ram h, ramCell_eq]

theorem readByte_of_stub {s : State} {addr : Addr} (h : 0x2000 ≤ addr.toNat) (h' : addr.toNat < 0x8000) :
    readByte s addr = 0 := by
  have h1 : ¬ addr.toNat ≤ 0x1FFF := by omega
  by_cases h2 : addr.toNat ≤ 0x3FFF
  · simp [readByte, region, h1, h2]
  · simp [readByte, region, h1, h2, show addr.toNat ≤ 0x7FFF by omega]

theorem readByte_of_prg {s : State} {addr : Addr} (h : 0x8000 ≤ addr.toNat) :
    readByte s addr = s.prg.get (prgOffset s.prgSize addr) := by
  simp [readByte, region_of_prg h]

/-- A bus write in RAM sets one physical cell (R63). -/
theorem writeByte_of_ram {s : State} {addr : Addr} {v : Byte} (h : addr.toNat < 0x2000) :
    writeByte s addr v = s.setRam (s.ram.set (addr.toNat % 0x800) v) := by
  simp [writeByte, region_of_ram h, ramCell_eq]

/-- A bus write outside RAM is dropped (R62). -/
theorem writeByte_of_not_ram {s : State} {addr : Addr} {v : Byte} (h : 0x2000 ≤ addr.toNat) :
    writeByte s addr v = s := by
  have h1 : ¬ addr.toNat ≤ 0x1FFF := by omega
  by_cases h2 : addr.toNat ≤ 0x3FFF
  · simp [writeByte, region, h1, h2]
  · by_cases h3 : addr.toNat ≤ 0x7FFF <;> simp [writeByte, region, h1, h2, h3]

/-- A bus read depends on RAM and the image alone. -/
theorem readByte_congr {s t : State} (hr : t.ram = s.ram) (hp : t.prg = s.prg) (hs : t.prgSize = s.prgSize) (addr : Addr) :
    readByte t addr = readByte s addr := by
  simp [readByte, hr, hp, hs]

/-- A bus write keeps RAM canonical. -/
theorem writeByte_ram_wf {s : State} {addr : Addr} {v : Byte} (h : s.ram.wf Config.ramBytes = true) :
    (writeByte s addr v).ram.wf Config.ramBytes = true := by
  by_cases ha : addr.toNat < 0x2000
  · rw [writeByte_of_ram ha]
    exact Memory.wf_set h (Nat.mod_lt _ (by decide))
  · rwa [writeByte_of_not_ram (by omega)]

/-! ## A bus read through the updates that touch neither RAM nor the image -/

section
variable (s : State) (b : Addr)
@[simp] theorem readByte_setA (v : Byte) : readByte (s.setA v) b = readByte s b := rfl
@[simp] theorem readByte_setX (v : Byte) : readByte (s.setX v) b = readByte s b := rfl
@[simp] theorem readByte_setY (v : Byte) : readByte (s.setY v) b = readByte s b := rfl
@[simp] theorem readByte_setSp (v : Byte) : readByte (s.setSp v) b = readByte s b := rfl
@[simp] theorem readByte_setPc (v : Addr) : readByte (s.setPc v) b = readByte s b := rfl
@[simp] theorem readByte_setP (v : Byte) : readByte (s.setP v) b = readByte s b := rfl
@[simp] theorem readByte_addCycles (n : Nat) : readByte (s.addCycles n) b = readByte s b := rfl
@[simp] theorem readByte_setRun (r : RunState) : readByte (s.setRun r) b = readByte s b := rfl
@[simp] theorem readByte_setHaltReason (r : HaltReason) : readByte (s.setHaltReason r) b = readByte s b := rfl
@[simp] theorem readByte_setNmiPending (on : Bool) : readByte (s.setNmiPending on) b = readByte s b := rfl
@[simp] theorem readByte_setIrqLevel (on : Bool) : readByte (s.setIrqLevel on) b = readByte s b := rfl
@[simp] theorem readByte_setHook (h : List (List HostWrite)) : readByte (s.setHook h) b = readByte s b := rfl
@[simp] theorem readByte_setNZ (v : Byte) : readByte (s.setNZ v) b = readByte s b := rfl
@[simp] theorem readByte_setFlag (f : Flag) (on : Bool) : readByte (s.setFlag f on) b = readByte s b := rfl
@[simp] theorem readByte_halt (r : HaltReason) : readByte (halt r s) b = readByte s b := rfl
@[simp] theorem readByte_pull8 : readByte (pull8 s) b = readByte s b := rfl
@[simp] theorem readByte_pull16 : readByte (pull16 s) b = readByte s b := rfl
end

/-! ## The stack -/

theorem push8_ram_wf {s : State} {v : Byte} (h : s.ram.wf Config.ramBytes = true) :
    (push8 s v).ram.wf Config.ramBytes = true := by
  simpa [push8] using writeByte_ram_wf h

theorem push16_ram_wf {s : State} {w : Addr} (h : s.ram.wf Config.ramBytes = true) :
    (push16 s w).ram.wf Config.ramBytes = true := push8_ram_wf (push8_ram_wf h)

/-- The stack location of every SP lies in page 1 (10_state.md R33, R34). -/
theorem stackAddr_toNat (sp : Byte) : (stackAddr sp).toNat = 0x100 + sp.toNat := by
  have := sp.isLt
  simp [stackAddr]
  omega

/-- The stack location as the number the spec gives (R34). -/
theorem stackAddr_eq_ofNat (sp : Byte) : stackAddr sp = BitVec.ofNat 16 (0x100 + sp.toNat) := by
  have := sp.isLt
  apply BitVec.eq_of_toNat_eq
  rw [stackAddr_toNat, BitVec.toNat_ofNat]
  omega

end Sys2Proof.Machine
end

