-- ==== Sys2Proof/Laws/Flags.lean ====
section
/-! SUPPORT. Reading one flag of P after each way of writing P. -/

namespace Sys2Proof.Machine

@[simp] theorem getFlag_setFlag (p : Byte) (f g : Flag) (on : Bool) :
    getFlag (setFlag p f on) g = if g = f then on else getFlag p g := by
  cases on <;> cases f <;> cases g <;> simp [getFlag, setFlag, Flag.bit]

/-- SetNZ writes N and Z alone (10_state.md R41). -/
@[simp] theorem getFlag_setNZ (p v : Byte) (g : Flag) :
    getFlag (setNZ p v) g = if g = .n then v.getLsbD 7 else if g = .z then v == 0 else getFlag p g := by
  simp [setNZ]

/-- Compare writes C, N and Z alone (42_arith_logic.md R152). -/
@[simp] theorem getFlag_comparedP (p r m : Byte) (g : Flag) :
    getFlag (comparedP p r m) g =
      if g = .n then (r - m).getLsbD 7 else if g = .z then (r - m) == 0
      else if g = .c then decide (m.toNat ≤ r.toNat) else getFlag p g := by
  simp [comparedP]

@[simp] theorem State.flag_setFlag (s : State) (f g : Flag) (on : Bool) :
    (s.setFlag f on).flag g = if g = f then on else s.flag g := by
  simp [State.flag]

@[simp] theorem State.flag_setNZ (s : State) (v : Byte) (g : Flag) :
    (s.setNZ v).flag g = if g = .n then v.getLsbD 7 else if g = .z then v == 0 else s.flag g := by
  simp [State.flag]

@[simp] theorem State.flag_setP (s : State) (v : Byte) (g : Flag) : (s.setP v).flag g = getFlag v g := rfl

/-- A flag depends on P alone. -/
theorem State.flag_congr {s t : State} (h : t.p = s.p) (f : Flag) : t.flag f = s.flag f := by simp [State.flag, h]

section
variable (s : State) (f : Flag)
@[simp] theorem State.flag_setA (v : Byte) : (s.setA v).flag f = s.flag f := rfl
@[simp] theorem State.flag_setX (v : Byte) : (s.setX v).flag f = s.flag f := rfl
@[simp] theorem State.flag_setY (v : Byte) : (s.setY v).flag f = s.flag f := rfl
@[simp] theorem State.flag_setSp (v : Byte) : (s.setSp v).flag f = s.flag f := rfl
@[simp] theorem State.flag_setPc (v : Addr) : (s.setPc v).flag f = s.flag f := rfl
@[simp] theorem State.flag_addCycles (n : Nat) : (s.addCycles n).flag f = s.flag f := rfl
@[simp] theorem State.flag_setRun (r : RunState) : (s.setRun r).flag f = s.flag f := rfl
@[simp] theorem State.flag_setHaltReason (r : HaltReason) : (s.setHaltReason r).flag f = s.flag f := rfl
@[simp] theorem State.flag_setNmiPending (on : Bool) : (s.setNmiPending on).flag f = s.flag f := rfl
@[simp] theorem State.flag_setIrqLevel (on : Bool) : (s.setIrqLevel on).flag f = s.flag f := rfl
@[simp] theorem State.flag_setRam (m : Memory) : (s.setRam m).flag f = s.flag f := rfl
@[simp] theorem State.flag_setHook (h : List (List HostWrite)) : (s.setHook h).flag f = s.flag f := rfl
@[simp] theorem State.flag_halt (r : HaltReason) : (halt r s).flag f = s.flag f := rfl
@[simp] theorem State.flag_pull8 : (pull8 s).flag f = s.flag f := rfl
@[simp] theorem State.flag_pull16 : (pull16 s).flag f = s.flag f := rfl
@[simp] theorem State.flag_writeByte (a : Addr) (v : Byte) : (writeByte s a v).flag f = s.flag f :=
  State.flag_congr (writeByte_p s a v) f
@[simp] theorem State.flag_push8 (v : Byte) : (push8 s v).flag f = s.flag f := State.flag_congr (push8_p s v) f
@[simp] theorem State.flag_push16 (w : Addr) : (push16 s w).flag f = s.flag f := State.flag_congr (push16_p s w) f
end

/-! ## The terms of the statements -/

theorem msb_eq_decide (v : Byte) : v.getLsbD 7 = decide (128 ≤ v.toNat) := by revert v; decide

theorem eq_zero_eq_decide (v : Byte) : (v == 0) = decide (v.toNat = 0) := by revert v; decide

/-- Looking a flag up in a list of written flags, entry by entry. -/
@[simp] theorem lookup_flag_cons (f g : Flag) (on : Bool) (l : List (Flag × Bool)) :
    ((g, on) :: l).lookup f = if f = g then some on else l.lookup f := by
  cases f <;> cases g <;> rfl

/-- The flags after a write of P, as a function of the flag. -/
theorem flagsAfter_iff {s t : State} {l : List (Flag × Bool)} :
    FlagsAfter s t l ↔ ∀ f, getFlag t.p f = (l.lookup f).getD (getFlag s.p f) := Iff.rfl

end Sys2Proof.Machine
end

