-- ==== Sys2Proof/Laws/Effects.lean ====
section
/-! SUPPORT. The effects that several meanings share (addToA, setAResult, compareFlags), field by field. -/

namespace Sys2Proof.Machine

section
variable (s : State)

@[simp] theorem addToA_a (m : Byte) : (addToA m s).a = (add8 s.a m (s.flag .c)).r := rfl
@[simp] theorem addToA_x (m : Byte) : (addToA m s).x = s.x := rfl
@[simp] theorem addToA_y (m : Byte) : (addToA m s).y = s.y := rfl
@[simp] theorem addToA_sp (m : Byte) : (addToA m s).sp = s.sp := rfl
@[simp] theorem addToA_pc (m : Byte) : (addToA m s).pc = s.pc := rfl
@[simp] theorem addToA_p (m : Byte) : (addToA m s).p =
    setNZ (setFlag (setFlag s.p .c (add8 s.a m (s.flag .c)).carry) .v (add8 s.a m (s.flag .c)).overflow)
      (add8 s.a m (s.flag .c)).r := rfl
@[simp] theorem addToA_cyc (m : Byte) : (addToA m s).cyc = s.cyc := rfl
@[simp] theorem addToA_run (m : Byte) : (addToA m s).run = s.run := rfl
@[simp] theorem addToA_haltReason (m : Byte) : (addToA m s).haltReason = s.haltReason := rfl
@[simp] theorem addToA_nmiPending (m : Byte) : (addToA m s).nmiPending = s.nmiPending := rfl
@[simp] theorem addToA_irqLevel (m : Byte) : (addToA m s).irqLevel = s.irqLevel := rfl
@[simp] theorem addToA_ram (m : Byte) : (addToA m s).ram = s.ram := rfl
@[simp] theorem addToA_prg (m : Byte) : (addToA m s).prg = s.prg := rfl
@[simp] theorem addToA_prgSize (m : Byte) : (addToA m s).prgSize = s.prgSize := rfl
@[simp] theorem addToA_hook (m : Byte) : (addToA m s).hook = s.hook := rfl
@[simp] theorem addToA_params (m : Byte) : (addToA m s).params = s.params := rfl
@[simp] theorem readByte_addToA (m : Byte) (b : Addr) : readByte (addToA m s) b = readByte s b := rfl

@[simp] theorem setAResult_a (v : Byte) : (setAResult v s).a = v := rfl
@[simp] theorem setAResult_x (v : Byte) : (setAResult v s).x = s.x := rfl
@[simp] theorem setAResult_y (v : Byte) : (setAResult v s).y = s.y := rfl
@[simp] theorem setAResult_sp (v : Byte) : (setAResult v s).sp = s.sp := rfl
@[simp] theorem setAResult_pc (v : Byte) : (setAResult v s).pc = s.pc := rfl
@[simp] theorem setAResult_p (v : Byte) : (setAResult v s).p = setNZ s.p v := rfl
@[simp] theorem setAResult_cyc (v : Byte) : (setAResult v s).cyc = s.cyc := rfl
@[simp] theorem setAResult_run (v : Byte) : (setAResult v s).run = s.run := rfl
@[simp] theorem setAResult_haltReason (v : Byte) : (setAResult v s).haltReason = s.haltReason := rfl
@[simp] theorem setAResult_nmiPending (v : Byte) : (setAResult v s).nmiPending = s.nmiPending := rfl
@[simp] theorem setAResult_irqLevel (v : Byte) : (setAResult v s).irqLevel = s.irqLevel := rfl
@[simp] theorem setAResult_ram (v : Byte) : (setAResult v s).ram = s.ram := rfl
@[simp] theorem setAResult_prg (v : Byte) : (setAResult v s).prg = s.prg := rfl
@[simp] theorem setAResult_prgSize (v : Byte) : (setAResult v s).prgSize = s.prgSize := rfl
@[simp] theorem setAResult_hook (v : Byte) : (setAResult v s).hook = s.hook := rfl
@[simp] theorem setAResult_params (v : Byte) : (setAResult v s).params = s.params := rfl
@[simp] theorem readByte_setAResult (v : Byte) (b : Addr) : readByte (setAResult v s) b = readByte s b := rfl

@[simp] theorem compareFlags_a (r m : Byte) : (compareFlags r m s).a = s.a := rfl
@[simp] theorem compareFlags_x (r m : Byte) : (compareFlags r m s).x = s.x := rfl
@[simp] theorem compareFlags_y (r m : Byte) : (compareFlags r m s).y = s.y := rfl
@[simp] theorem compareFlags_sp (r m : Byte) : (compareFlags r m s).sp = s.sp := rfl
@[simp] theorem compareFlags_pc (r m : Byte) : (compareFlags r m s).pc = s.pc := rfl
@[simp] theorem compareFlags_p (r m : Byte) : (compareFlags r m s).p = comparedP s.p r m := rfl
@[simp] theorem compareFlags_cyc (r m : Byte) : (compareFlags r m s).cyc = s.cyc := rfl
@[simp] theorem compareFlags_run (r m : Byte) : (compareFlags r m s).run = s.run := rfl
@[simp] theorem compareFlags_haltReason (r m : Byte) : (compareFlags r m s).haltReason = s.haltReason := rfl
@[simp] theorem compareFlags_nmiPending (r m : Byte) : (compareFlags r m s).nmiPending = s.nmiPending := rfl
@[simp] theorem compareFlags_irqLevel (r m : Byte) : (compareFlags r m s).irqLevel = s.irqLevel := rfl
@[simp] theorem compareFlags_ram (r m : Byte) : (compareFlags r m s).ram = s.ram := rfl
@[simp] theorem compareFlags_prg (r m : Byte) : (compareFlags r m s).prg = s.prg := rfl
@[simp] theorem compareFlags_prgSize (r m : Byte) : (compareFlags r m s).prgSize = s.prgSize := rfl
@[simp] theorem compareFlags_hook (r m : Byte) : (compareFlags r m s).hook = s.hook := rfl
@[simp] theorem compareFlags_params (r m : Byte) : (compareFlags r m s).params = s.params := rfl
@[simp] theorem readByte_compareFlags (r m : Byte) (b : Addr) : readByte (compareFlags r m s) b = readByte s b := rfl

/-- The flags after the adder (42_arith_logic.md R150): C and V from the adder, N and Z of the result, the rest as before. -/
@[simp] theorem State.flag_addToA (m : Byte) (f : Flag) :
    (addToA m s).flag f =
      (let t := add8 s.a m (s.flag .c)
       if f = .n then t.r.getLsbD 7 else if f = .z then t.r == 0 else if f = .v then t.overflow
       else if f = .c then t.carry else s.flag f) := by
  simp [State.flag]

@[simp] theorem State.flag_setAResult (v : Byte) (f : Flag) :
    (setAResult v s).flag f = if f = .n then v.getLsbD 7 else if f = .z then v == 0 else s.flag f := by
  simp [State.flag]

@[simp] theorem State.flag_compareFlags (r m : Byte) (f : Flag) :
    (compareFlags r m s).flag f =
      if f = .n then (r - m).getLsbD 7 else if f = .z then (r - m) == 0
      else if f = .c then decide (m.toNat ≤ r.toNat) else s.flag f := by
  simp [State.flag]
end

end Sys2Proof.Machine
end

