-- ==== Sys2Proof/Laws/Exec.lean ====
section
/-! SUPPORT. What the shared operations around an instruction can do, each said once: the admission test, perform, performJump,
and the exception operations. -/

namespace Sys2Proof.Machine

/-! ## Admission -/

theorem admitted_of_official {s : State} {op : Byte} (h : (entry op).tier = .official) : admitted s op = true := by
  simp [admitted, h]

theorem admitted_of_unofficial {s : State} {op : Byte} (h : (entry op).tier = .unofficial)
    (hs : s.params.admitUnofficial = true) : admitted s op = true := by
  simp [admitted, h, hs]

/-- Admission depends on the parameters alone. -/
theorem admitted_congr {s t : State} (h : t.params = s.params) (op : Byte) : admitted t op = admitted s op := by
  simp [admitted, h]

/-- An opcode is not admitted exactly when IllegalOpcode is its meaning (R112, R196). -/
theorem not_admitted_iff {s : State} {op : Byte} :
    admitted s op = false ↔ (entry op).tier = .unimplemented ∨
      (entry op).tier = .unofficial ∧ s.params.admitUnofficial = false := by
  unfold admitted
  split <;> simp_all

/-! ## IllegalOpcode -/

section
variable (op : Byte) (s : State)
@[simp] theorem raiseIllegalOpcode_a : (raiseIllegalOpcode op s).a = s.a := rfl
@[simp] theorem raiseIllegalOpcode_x : (raiseIllegalOpcode op s).x = s.x := rfl
@[simp] theorem raiseIllegalOpcode_y : (raiseIllegalOpcode op s).y = s.y := rfl
@[simp] theorem raiseIllegalOpcode_sp : (raiseIllegalOpcode op s).sp = s.sp := rfl
@[simp] theorem raiseIllegalOpcode_pc : (raiseIllegalOpcode op s).pc = s.pc := rfl
@[simp] theorem raiseIllegalOpcode_p : (raiseIllegalOpcode op s).p = s.p := rfl
@[simp] theorem raiseIllegalOpcode_cyc : (raiseIllegalOpcode op s).cyc = s.cyc := rfl
@[simp] theorem raiseIllegalOpcode_run : (raiseIllegalOpcode op s).run = .halted := rfl
@[simp] theorem raiseIllegalOpcode_haltReason : (raiseIllegalOpcode op s).haltReason = .illegalOpcode op s.pc := rfl
@[simp] theorem raiseIllegalOpcode_nmiPending : (raiseIllegalOpcode op s).nmiPending = s.nmiPending := rfl
@[simp] theorem raiseIllegalOpcode_irqLevel : (raiseIllegalOpcode op s).irqLevel = s.irqLevel := rfl
@[simp] theorem raiseIllegalOpcode_ram : (raiseIllegalOpcode op s).ram = s.ram := rfl
@[simp] theorem raiseIllegalOpcode_prg : (raiseIllegalOpcode op s).prg = s.prg := rfl
@[simp] theorem raiseIllegalOpcode_prgSize : (raiseIllegalOpcode op s).prgSize = s.prgSize := rfl
@[simp] theorem raiseIllegalOpcode_hook : (raiseIllegalOpcode op s).hook = s.hook := rfl
@[simp] theorem raiseIllegalOpcode_params : (raiseIllegalOpcode op s).params = s.params := rfl
@[simp] theorem readByte_raiseIllegalOpcode (b : Addr) : readByte (raiseIllegalOpcode op s) b = readByte s b := rfl
@[simp] theorem State.flag_raiseIllegalOpcode (f : Flag) : (raiseIllegalOpcode op s).flag f = s.flag f := rfl
end

/-! ## perform and performJump -/

theorem perform_of_admitted {i : Instr} {cr : Bool} {effect : State → State} {s : State}
    (h : admitted s i.opcode = true) :
    perform i cr effect s = .next (((effect s).setPc (nextPc i.opcode s)).addCycles (cost i.opcode cr)) := by
  simp [perform, h]

theorem perform_of_not_admitted {i : Instr} {cr : Bool} {effect : State → State} {s : State}
    (h : admitted s i.opcode = false) :
    perform i cr effect s = .next (raiseIllegalOpcode i.opcode s) := by
  simp [perform, h]

/-- Everything perform can answer. -/
theorem perform_next {i : Instr} {cr : Bool} {effect : State → State} {s t : State}
    (h : perform i cr effect s = .next t) :
    admitted s i.opcode = true ∧ t = ((effect s).setPc (nextPc i.opcode s)).addCycles (cost i.opcode cr) ∨
    admitted s i.opcode = false ∧ t = raiseIllegalOpcode i.opcode s := by
  unfold perform at h
  split at h <;> cases h <;> simp_all

theorem performJump_of_admitted {i : Instr} {extra : Nat} {effect : State → State} {s : State}
    (h : admitted s i.opcode = true) :
    performJump i extra effect s = .next ((effect s).addCycles (cost i.opcode false + extra)) := by
  simp [performJump, h]

theorem performJump_of_not_admitted {i : Instr} {extra : Nat} {effect : State → State} {s : State}
    (h : admitted s i.opcode = false) :
    performJump i extra effect s = .next (raiseIllegalOpcode i.opcode s) := by
  simp [performJump, h]

/-- Everything performJump can answer. -/
theorem performJump_next {i : Instr} {extra : Nat} {effect : State → State} {s t : State}
    (h : performJump i extra effect s = .next t) :
    admitted s i.opcode = true ∧ t = (effect s).addCycles (cost i.opcode false + extra) ∨
    admitted s i.opcode = false ∧ t = raiseIllegalOpcode i.opcode s := by
  unfold performJump at h
  split at h <;> cases h <;> simp_all

/-! ## Fields through the exception operations -/

section
variable (s : State) (ret vector : Addr) (brk : Bool)

/-- Taking an exception: the three pushes, then I, then the vector. The image pushed is of the P at entry. -/
theorem takeException_eq : takeException ret brk vector s =
    ((push8 (push16 s ret) (pushImage s.p brk)).setFlag .i true).setPc
      (readWord (push8 (push16 s ret) (pushImage s.p brk)) vector) := by
  simp [takeException]; rfl

@[simp] theorem takeException_a : (takeException ret brk vector s).a = s.a := by simp [takeException]
@[simp] theorem takeException_x : (takeException ret brk vector s).x = s.x := by simp [takeException]
@[simp] theorem takeException_y : (takeException ret brk vector s).y = s.y := by simp [takeException]
@[simp] theorem takeException_cyc : (takeException ret brk vector s).cyc = s.cyc := by simp [takeException]
@[simp] theorem takeException_run : (takeException ret brk vector s).run = s.run := by simp [takeException]
@[simp] theorem takeException_haltReason : (takeException ret brk vector s).haltReason = s.haltReason := by simp [takeException]
@[simp] theorem takeException_nmiPending : (takeException ret brk vector s).nmiPending = s.nmiPending := by simp [takeException]
@[simp] theorem takeException_irqLevel : (takeException ret brk vector s).irqLevel = s.irqLevel := by simp [takeException]
@[simp] theorem takeException_prg : (takeException ret brk vector s).prg = s.prg := by simp [takeException]
@[simp] theorem takeException_prgSize : (takeException ret brk vector s).prgSize = s.prgSize := by simp [takeException]
@[simp] theorem takeException_hook : (takeException ret brk vector s).hook = s.hook := by simp [takeException]
@[simp] theorem takeException_params : (takeException ret brk vector s).params = s.params := by simp [takeException]
@[simp] theorem takeException_sp : (takeException ret brk vector s).sp = s.sp - 1 - 1 - 1 := by simp [takeException]
@[simp] theorem takeException_p : (takeException ret brk vector s).p = setFlag s.p .i true := by simp [takeException]

theorem takeException_ram_wf {s : State} (h : s.ram.wf Config.ramBytes = true) :
    (takeException ret brk vector s).ram.wf Config.ramBytes = true := by
  simpa [takeException] using push8_ram_wf (push16_ram_wf h)

@[simp] theorem State.flag_takeException (f : Flag) :
    (takeException ret brk vector s).flag f = if f = .i then true else s.flag f := by simp [State.flag]

@[simp] theorem enterInterrupt_a : (enterInterrupt vector s).a = s.a := by simp [enterInterrupt]
@[simp] theorem enterInterrupt_x : (enterInterrupt vector s).x = s.x := by simp [enterInterrupt]
@[simp] theorem enterInterrupt_y : (enterInterrupt vector s).y = s.y := by simp [enterInterrupt]
@[simp] theorem enterInterrupt_haltReason : (enterInterrupt vector s).haltReason = s.haltReason := by simp [enterInterrupt]
@[simp] theorem enterInterrupt_nmiPending : (enterInterrupt vector s).nmiPending = s.nmiPending := by simp [enterInterrupt]
@[simp] theorem enterInterrupt_irqLevel : (enterInterrupt vector s).irqLevel = s.irqLevel := by simp [enterInterrupt]
@[simp] theorem enterInterrupt_prg : (enterInterrupt vector s).prg = s.prg := by simp [enterInterrupt]
@[simp] theorem enterInterrupt_prgSize : (enterInterrupt vector s).prgSize = s.prgSize := by simp [enterInterrupt]
@[simp] theorem enterInterrupt_hook : (enterInterrupt vector s).hook = s.hook := by simp [enterInterrupt]
@[simp] theorem enterInterrupt_params : (enterInterrupt vector s).params = s.params := by simp [enterInterrupt]
@[simp] theorem enterInterrupt_sp : (enterInterrupt vector s).sp = s.sp - 1 - 1 - 1 := by simp [enterInterrupt]
@[simp] theorem enterInterrupt_p : (enterInterrupt vector s).p = setFlag s.p .i true := by simp [enterInterrupt]
@[simp] theorem enterInterrupt_cyc : (enterInterrupt vector s).cyc = s.cyc + 7 := by simp [enterInterrupt]
@[simp] theorem enterInterrupt_run : (enterInterrupt vector s).run = .running := by simp [enterInterrupt]

@[simp] theorem State.flag_enterInterrupt (f : Flag) :
    (enterInterrupt vector s).flag f = if f = .i then true else s.flag f := by simp [State.flag]

theorem enterInterrupt_ram_wf {s : State} (h : s.ram.wf Config.ramBytes = true) :
    (enterInterrupt vector s).ram.wf Config.ramBytes = true := by
  simpa [enterInterrupt] using takeException_ram_wf _ _ _ (s := s.setRun .interruptServicing) (by simpa using h)

@[simp] theorem returnFromException_a : (returnFromException s).a = s.a := rfl
@[simp] theorem returnFromException_x : (returnFromException s).x = s.x := rfl
@[simp] theorem returnFromException_y : (returnFromException s).y = s.y := rfl
@[simp] theorem returnFromException_cyc : (returnFromException s).cyc = s.cyc := rfl
@[simp] theorem returnFromException_run : (returnFromException s).run = s.run := rfl
@[simp] theorem returnFromException_haltReason : (returnFromException s).haltReason = s.haltReason := rfl
@[simp] theorem returnFromException_nmiPending : (returnFromException s).nmiPending = s.nmiPending := rfl
@[simp] theorem returnFromException_irqLevel : (returnFromException s).irqLevel = s.irqLevel := rfl
@[simp] theorem returnFromException_prg : (returnFromException s).prg = s.prg := rfl
@[simp] theorem returnFromException_prgSize : (returnFromException s).prgSize = s.prgSize := rfl
@[simp] theorem returnFromException_hook : (returnFromException s).hook = s.hook := rfl
@[simp] theorem returnFromException_params : (returnFromException s).params = s.params := rfl
@[simp] theorem returnFromException_ram : (returnFromException s).ram = s.ram := rfl
@[simp] theorem returnFromException_sp : (returnFromException s).sp = s.sp + 1 + 1 + 1 := rfl
@[simp] theorem readByte_returnFromException (b : Addr) : readByte (returnFromException s) b = readByte s b := rfl
@[simp] theorem returnFromException_p : (returnFromException s).p = loadP (pulled8 s) := rfl
end

end Sys2Proof.Machine
end

