-- ==== Sys2Proof/Laws/Words.lean ====
section
/-! SUPPORT. Bytes and 16-bit words: splitting, joining, and both as numbers (00_scope.md R11, 20_memory.md R69). -/

namespace Sys2Proof

theorem word16_toNat (hi lo : Byte) : (word16 hi lo).toNat = 256 * hi.toNat + lo.toNat := by
  have := lo.isLt
  simp only [word16, BitVec.toNat_append]
  rw [← Nat.shiftLeft_add_eq_or_of_lt (by omega), Nat.shiftLeft_eq]
  omega

theorem hi8_toNat (w : Addr) : (hi8 w).toNat = w.toNat / 256 := by
  have := w.isLt
  simp only [hi8, BitVec.extractLsb'_toNat, Nat.shiftRight_eq_div_pow]
  omega

theorem lo8_toNat (w : Addr) : (lo8 w).toNat = w.toNat % 256 := by
  simp [lo8, BitVec.extractLsb'_toNat]

@[simp] theorem word16_hi8_lo8 (w : Addr) : word16 (hi8 w) (lo8 w) = w := by
  apply BitVec.eq_of_toNat_eq
  rw [word16_toNat, hi8_toNat, lo8_toNat]
  omega

@[simp] theorem hi8_word16 (hi lo : Byte) : hi8 (word16 hi lo) = hi := by
  have := lo.isLt
  apply BitVec.eq_of_toNat_eq
  rw [hi8_toNat, word16_toNat]
  omega

@[simp] theorem lo8_word16 (hi lo : Byte) : lo8 (word16 hi lo) = lo := by
  have := lo.isLt
  apply BitVec.eq_of_toNat_eq
  rw [lo8_toNat, word16_toNat]
  omega

namespace Machine

theorem zeroPage_toNat (z : Byte) : (zeroPage z).toNat = z.toNat := by
  have := z.isLt
  simp only [zeroPage, BitVec.toNat_setWidth]
  omega

/-- A zero-page address as the number the spec gives (30_encoding.md R101). -/
theorem zeroPage_eq_ofNat (z : Byte) : zeroPage z = BitVec.ofNat 16 z.toNat := by
  have := z.isLt
  apply BitVec.eq_of_toNat_eq
  rw [zeroPage_toNat, BitVec.toNat_ofNat]
  omega

/-- Two addresses lie in different pages exactly when their page numbers differ (R110). -/
theorem pagesDiffer_iff (a b : Addr) : pagesDiffer a b = true ↔ a.toNat / 256 ≠ b.toNat / 256 := by
  simp only [pagesDiffer, bne_iff_ne, ne_eq, ← BitVec.toNat_inj, hi8_toNat]

end Machine

end Sys2Proof
end

