-- ==== Sys2Proof/Laws/Operands.lean ====
section
/-! SUPPORT. The addressing-mode resolver: operand values form by form, and what an effective address depends on. -/

namespace Sys2Proof.Machine

@[simp] theorem operandValue_imm (b : Byte) (s : State) : operandValue (.imm b) s = b := rfl
@[simp] theorem operandValue_mem (m : MemMode) (s : State) : operandValue (.mem m) s = readByte s (effAddr m s) := rfl
@[simp] theorem operandCrossed_imm (b : Byte) (s : State) : operandCrossed (.imm b) s = false := rfl
@[simp] theorem operandCrossed_mem (m : MemMode) (s : State) : operandCrossed (.mem m) s = crossed m s := rfl

/-- An effective address depends on X, Y and what memory reads as, alone (30_encoding.md R97). -/
theorem effAddr_congr {s t : State} (hx : t.x = s.x) (hy : t.y = s.y) (hm : ∀ b, readByte t b = readByte s b) (m : MemMode) :
    effAddr m t = effAddr m s := by
  cases m <;> simp [effAddr, readWordZP, xIndex, yIndex, hx, hy, hm]

theorem crossed_congr {s t : State} (hx : t.x = s.x) (hy : t.y = s.y) (hm : ∀ b, readByte t b = readByte s b) (m : MemMode) :
    crossed m t = crossed m s := by
  cases m <;> simp [crossed, readWordZP, xIndex, yIndex, hx, hy, hm]

theorem operandValue_congr {s t : State} (hx : t.x = s.x) (hy : t.y = s.y) (hm : ∀ b, readByte t b = readByte s b)
    (o : ReadOperand) : operandValue o t = operandValue o s := by
  cases o <;> simp [effAddr_congr hx hy hm, hm]

theorem operandCrossed_congr {s t : State} (hx : t.x = s.x) (hy : t.y = s.y) (hm : ∀ b, readByte t b = readByte s b)
    (o : ReadOperand) : operandCrossed o t = operandCrossed o s := by
  cases o <;> simp [crossed_congr hx hy hm]

/-- `Read16ZP(z)` as a number: both bytes from the zero page (30_encoding.md R106). -/
theorem readWordZP_toNat (s : State) (z : Byte) :
    (readWordZP s z).toNat = 256 * (readByte s (zeroPage (z + 1))).toNat + (readByte s (zeroPage z)).toNat :=
  word16_toNat _ _

end Sys2Proof.Machine
end

