-- ==== Sys2Proof/Laws/PerInstr.lean ====
section
/-! SUPPORT. Per-instruction families: one lemma for each constructor of Instr. -/

namespace Sys2Proof.Laws.EncodedLength

/-- The bytes of a well-formed instruction are as many as its opcode-table entry says (30_encoding.md R92). -/
def Statement (i : Instr) : Prop := i.wellFormed = true → i.encode.length = (entry i.opcode).length

theorem lda (o : AluOperand) : Statement (.lda o) := by
  intro _; cases o <;> rfl
theorem ldx (o : LdxOperand) : Statement (.ldx o) := by
  intro _; cases o <;> rfl
theorem ldy (o : LdyOperand) : Statement (.ldy o) := by
  intro _; cases o <;> rfl
theorem sta (o : Mem7Operand) : Statement (.sta o) := by
  intro _; cases o <;> rfl
theorem stx (o : StxOperand) : Statement (.stx o) := by
  intro _; cases o <;> rfl
theorem sty (o : StyOperand) : Statement (.sty o) := by
  intro _; cases o <;> rfl
theorem tax : Statement (.tax) := fun _ => rfl
theorem tay : Statement (.tay) := fun _ => rfl
theorem txa : Statement (.txa) := fun _ => rfl
theorem tya : Statement (.tya) := fun _ => rfl
theorem tsx : Statement (.tsx) := fun _ => rfl
theorem txs : Statement (.txs) := fun _ => rfl
theorem pha : Statement (.pha) := fun _ => rfl
theorem php : Statement (.php) := fun _ => rfl
theorem pla : Statement (.pla) := fun _ => rfl
theorem plp : Statement (.plp) := fun _ => rfl
theorem adc (o : AluOperand) : Statement (.adc o) := by
  intro _; cases o <;> rfl
theorem sbc (o : AluOperand) : Statement (.sbc o) := by
  intro _; cases o <;> rfl
theorem cmp (o : AluOperand) : Statement (.cmp o) := by
  intro _; cases o <;> rfl
theorem cpx (o : CpOperand) : Statement (.cpx o) := by
  intro _; cases o <;> rfl
theorem cpy (o : CpOperand) : Statement (.cpy o) := by
  intro _; cases o <;> rfl
theorem and (o : AluOperand) : Statement (.and o) := by
  intro _; cases o <;> rfl
theorem ora (o : AluOperand) : Statement (.ora o) := by
  intro _; cases o <;> rfl
theorem eor (o : AluOperand) : Statement (.eor o) := by
  intro _; cases o <;> rfl
theorem bit (o : BitOperand) : Statement (.bit o) := by
  intro _; cases o <;> rfl
theorem inc (o : Mem4Operand) : Statement (.inc o) := by
  intro _; cases o <;> rfl
theorem dec (o : Mem4Operand) : Statement (.dec o) := by
  intro _; cases o <;> rfl
theorem inx : Statement (.inx) := fun _ => rfl
theorem iny : Statement (.iny) := fun _ => rfl
theorem dex : Statement (.dex) := fun _ => rfl
theorem dey : Statement (.dey) := fun _ => rfl
theorem asl (o : ShiftOperand) : Statement (.asl o) := by
  intro _; cases o <;> rfl
theorem lsr (o : ShiftOperand) : Statement (.lsr o) := by
  intro _; cases o <;> rfl
theorem rol (o : ShiftOperand) : Statement (.rol o) := by
  intro _; cases o <;> rfl
theorem ror (o : ShiftOperand) : Statement (.ror o) := by
  intro _; cases o <;> rfl
theorem jmp (o : JmpOperand) : Statement (.jmp o) := by
  intro _; cases o <;> rfl
theorem jsr (w : Addr) : Statement (.jsr w) := fun _ => rfl
theorem rts : Statement (.rts) := fun _ => rfl
theorem rti : Statement (.rti) := fun _ => rfl
theorem bpl (r : Byte) : Statement (.bpl r) := fun _ => rfl
theorem bmi (r : Byte) : Statement (.bmi r) := fun _ => rfl
theorem bvc (r : Byte) : Statement (.bvc r) := fun _ => rfl
theorem bvs (r : Byte) : Statement (.bvs r) := fun _ => rfl
theorem bcc (r : Byte) : Statement (.bcc r) := fun _ => rfl
theorem bcs (r : Byte) : Statement (.bcs r) := fun _ => rfl
theorem bne (r : Byte) : Statement (.bne r) := fun _ => rfl
theorem beq (r : Byte) : Statement (.beq r) := fun _ => rfl
theorem brk : Statement (.brk) := fun _ => rfl
theorem clc : Statement (.clc) := fun _ => rfl
theorem sec : Statement (.sec) := fun _ => rfl
theorem cli : Statement (.cli) := fun _ => rfl
theorem sei : Statement (.sei) := fun _ => rfl
theorem cld : Statement (.cld) := fun _ => rfl
theorem sed : Statement (.sed) := fun _ => rfl
theorem clv : Statement (.clv) := fun _ => rfl
theorem nop : Statement (.nop) := fun _ => rfl
theorem nopUnofficial (op : Byte) (o : NopOperand) : Statement (.nopUnofficial op o) := by
  intro h
  have hop : op ∈ nopOpcodes o := by simpa [Instr.wellFormed] using h
  have hk : ∀ (l : List Byte) (n : Nat), l.all (fun x => (entry x).length == n) = true → op ∈ l → n = (entry op).length :=
    fun l n hl hm => (by simpa using List.all_eq_true.1 hl op hm : (entry op).length = n).symm
  cases o with
  | imp => exact hk [0x1A, 0x3A, 0x5A, 0x7A, 0xDA, 0xFA] 1 (by decide) hop
  | imm b => exact hk [0x80, 0x82, 0x89, 0xC2, 0xE2] 2 (by decide) hop
  | zp z => exact hk [0x04, 0x44, 0x64] 2 (by decide) hop
  | zpX z => exact hk [0x14, 0x34, 0x54, 0x74, 0xD4, 0xF4] 2 (by decide) hop
  | abs w => exact hk [0x0C] 3 (by decide) hop
  | absX w => exact hk [0x1C, 0x3C, 0x5C, 0x7C, 0xDC, 0xFC] 3 (by decide) hop
theorem lax (o : LaxOperand) : Statement (.lax o) := by
  intro _; cases o <;> rfl
theorem sax (o : SaxOperand) : Statement (.sax o) := by
  intro _; cases o <;> rfl
theorem sbcUnofficial (b : Byte) : Statement (.sbcUnofficial b) := fun _ => rfl
theorem slo (o : Mem7Operand) : Statement (.slo o) := by
  intro _; cases o <;> rfl
theorem rla (o : Mem7Operand) : Statement (.rla o) := by
  intro _; cases o <;> rfl
theorem sre (o : Mem7Operand) : Statement (.sre o) := by
  intro _; cases o <;> rfl
theorem rra (o : Mem7Operand) : Statement (.rra o) := by
  intro _; cases o <;> rfl
theorem dcp (o : Mem7Operand) : Statement (.dcp o) := by
  intro _; cases o <;> rfl
theorem isb (o : Mem7Operand) : Statement (.isb o) := by
  intro _; cases o <;> rfl
theorem anc (op : Byte) (b : Byte) : Statement (.anc op b) := by
  intro h
  have hk : ∀ op ∈ ancOpcodes, (entry op).length = 2 := by decide
  exact (hk op (by simpa [Instr.wellFormed] using h)).symm
theorem alr (b : Byte) : Statement (.alr b) := fun _ => rfl
theorem arr (b : Byte) : Statement (.arr b) := fun _ => rfl
theorem sbx (b : Byte) : Statement (.sbx b) := fun _ => rfl
theorem jam (op : Byte) : Statement (.jam op) := by
  intro h
  have hk : ∀ op ∈ jamOpcodes, (entry op).length = 1 := by decide
  exact (hk op (by simpa [Instr.wellFormed] using h)).symm
theorem ane (b : Byte) : Statement (.ane b) := fun _ => rfl
theorem lxa (b : Byte) : Statement (.lxa b) := fun _ => rfl
theorem sha (o : ShaOperand) : Statement (.sha o) := by
  intro _; cases o <;> rfl
theorem shx (w : Addr) : Statement (.shx w) := fun _ => rfl
theorem shy (w : Addr) : Statement (.shy w) := fun _ => rfl
theorem tas (w : Addr) : Statement (.tas w) := fun _ => rfl
theorem las (w : Addr) : Statement (.las w) := fun _ => rfl

end Sys2Proof.Laws.EncodedLength
end

