-- ==== Sys2Proof/Laws/Reset.lean ====
section
/-! SUPPORT. The reset state is what the reset sequence of 70_reset_and_hazards.md R341 makes of a newly constructed core. -/

namespace Sys2Proof.Machine

/-- With the default parameters and with memories that list nothing (the model's choice, notes/assumptions/2.md and 3.md). -/
theorem State.reset_eq_hostReset : State.reset = hostReset (constructed [] .kib16 [] Params.default) := by decide

end Sys2Proof.Machine
end

