-- ==== Sys2Proof/Laws/Step.lean ====
section
/-! SUPPORT. What the parts of a step around exec can do, and what a step that answers a next state did (10_state.md R47). -/

namespace Sys2Proof.Machine

/-! ## The hook -/

/-- The hook's writes change RAM alone. -/
theorem applyWrites_eq (ws : List HostWrite) (s : State) : applyWrites ws s = s.setRam (applyWrites ws s).ram := by
  induction ws generalizing s with
  | nil => rfl
  | cons w ws ih =>
    rw [applyWrites, ih, writeByte]
    split <;> rfl

/-- The writes of a call happen in order. -/
@[simp] theorem applyWrites_append (ws ws' : List HostWrite) (s : State) :
    applyWrites (ws ++ ws') s = applyWrites ws' (applyWrites ws s) := by
  induction ws generalizing s with
  | nil => rfl
  | cons w ws ih => exact ih _

theorem applyWrites_ram_wf {ws : List HostWrite} {s : State} (h : s.ram.wf Config.ramBytes = true) :
    (applyWrites ws s).ram.wf Config.ramBytes = true := by
  induction ws generalizing s with
  | nil => exact h
  | cons w ws ih => exact ih (writeByte_ram_wf h)

/-- The hook changes RAM and the list of coming writes alone. -/
theorem runHook_eq (s : State) : runHook s = (s.setHook s.hook.tail).setRam (runHook s).ram := by
  unfold runHook
  split
  · next h =>
    rw [show s.hook.tail = s.hook by rw [h]; rfl]
    rfl
  · next ws later h => rw [h]; exact applyWrites_eq ws (s.setHook later)

theorem runHook_ram_wf {s : State} (h : s.ram.wf Config.ramBytes = true) : (runHook s).ram.wf Config.ramBytes = true := by
  unfold runHook
  split
  · exact h
  · exact applyWrites_ram_wf h

section
variable (s : State)
@[simp] theorem runHook_a : (runHook s).a = s.a := by rw [runHook_eq]; rfl
@[simp] theorem runHook_x : (runHook s).x = s.x := by rw [runHook_eq]; rfl
@[simp] theorem runHook_y : (runHook s).y = s.y := by rw [runHook_eq]; rfl
@[simp] theorem runHook_sp : (runHook s).sp = s.sp := by rw [runHook_eq]; rfl
@[simp] theorem runHook_pc : (runHook s).pc = s.pc := by rw [runHook_eq]; rfl
@[simp] theorem runHook_p : (runHook s).p = s.p := by rw [runHook_eq]; rfl
@[simp] theorem runHook_cyc : (runHook s).cyc = s.cyc := by rw [runHook_eq]; rfl
@[simp] theorem runHook_run : (runHook s).run = s.run := by rw [runHook_eq]; rfl
@[simp] theorem runHook_haltReason : (runHook s).haltReason = s.haltReason := by rw [runHook_eq]; rfl
@[simp] theorem runHook_nmiPending : (runHook s).nmiPending = s.nmiPending := by rw [runHook_eq]; rfl
@[simp] theorem runHook_irqLevel : (runHook s).irqLevel = s.irqLevel := by rw [runHook_eq]; rfl
@[simp] theorem runHook_prg : (runHook s).prg = s.prg := by rw [runHook_eq]; rfl
@[simp] theorem runHook_prgSize : (runHook s).prgSize = s.prgSize := by rw [runHook_eq]; rfl
@[simp] theorem runHook_params : (runHook s).params = s.params := by rw [runHook_eq]; rfl
end

/-! ## The interrupt check -/

/-- Everything the interrupt check can do (60_exceptions.md R303). -/
theorem interruptCheck_cases (s : State) :
    s.nmiPending = true ∧ interruptCheck s = enterInterrupt nmiVector (s.setNmiPending false) ∨
    s.nmiPending = false ∧ s.irqLevel = true ∧ s.flag .i = false ∧ interruptCheck s = enterInterrupt irqVector s ∨
    s.nmiPending = false ∧ (s.irqLevel = false ∨ s.flag .i = true) ∧ interruptCheck s = s := by
  unfold interruptCheck
  cases h : s.nmiPending <;> cases h' : s.irqLevel <;> cases h'' : s.flag .i <;> simp

/-- What every case of the interrupt check keeps. -/
theorem interruptCheck_keeps (s : State) :
    (interruptCheck s).a = s.a ∧ (interruptCheck s).x = s.x ∧ (interruptCheck s).y = s.y ∧
    (interruptCheck s).haltReason = s.haltReason ∧ (interruptCheck s).irqLevel = s.irqLevel ∧
    (interruptCheck s).prg = s.prg ∧ (interruptCheck s).prgSize = s.prgSize ∧ (interruptCheck s).hook = s.hook ∧
    (interruptCheck s).params = s.params := by
  obtain ⟨_, h⟩ | ⟨_, _, _, h⟩ | ⟨_, _, h⟩ := interruptCheck_cases s <;> rw [h] <;> simp

theorem interruptCheck_run {s : State} (hs : s.run = .running) : (interruptCheck s).run = .running := by
  obtain ⟨_, h⟩ | ⟨_, _, _, h⟩ | ⟨_, _, h⟩ := interruptCheck_cases s <;> rw [h] <;> simp [hs]

theorem interruptCheck_ram_wf {s : State} (hw : s.ram.wf Config.ramBytes = true) :
    (interruptCheck s).ram.wf Config.ramBytes = true := by
  obtain ⟨_, h⟩ | ⟨_, _, _, h⟩ | ⟨_, _, h⟩ := interruptCheck_cases s <;> rw [h]
  · exact enterInterrupt_ram_wf _ hw
  · exact enterInterrupt_ram_wf _ hw
  · exact hw

/-! ## The step -/

/-- A step that answers a next state ran the fetched instruction after the interrupt check. -/
theorem step_next {s t : State} (h : step s = .next t) :
    s.run = .running ∧ ∃ s1, exec (fetched (interruptCheck s)) (interruptCheck s) = .next s1 ∧
      t = afterExec (fetched (interruptCheck s)) (interruptCheck s) s1 := by
  unfold step at h
  split at h
  · next hr =>
    refine ⟨hr, ?_⟩
    dsimp only at h
    split at h <;> cases h
    exact ⟨_, ‹_›, rfl⟩
  · cases h

theorem step_of_exec {s s1 : State} (hr : s.run = .running)
    (h : exec (fetched (interruptCheck s)) (interruptCheck s) = .next s1) :
    step s = .next (afterExec (fetched (interruptCheck s)) (interruptCheck s) s1) := by
  simp [step, hr, h]

end Sys2Proof.Machine
end

