-- ==== Sys2Proof/Tests/Slice0.lean ====
section
/-! SUPPORT. Tests. Expected values come from the spec: the Encoding lines of 40_load_store_transfer.md to 46_unofficial.md for the
words, 95_test_vectors.md for the steps (each docstring names its vector), the numbers of 30_encoding.md R112 to R117. At the end,
one witness for the hypotheses of each obligation that has any. -/

open Sys2Proof Sys2Proof.Machine

namespace Sys2Proof.Tests

/-! ## WellFormed -/

theorem test_jam_needs_its_opcode : (Instr.jam 0x00).wellFormed = false ∧ (Instr.jam 0x82).wellFormed = false := by decide
theorem test_anc_needs_its_opcode : (Instr.anc 0x4B 0x80).wellFormed = false := by decide
theorem test_nop_implied_needs_its_opcode : (Instr.nopUnofficial 0xEA .imp).wellFormed = false := by decide
theorem test_nop_immediate_needs_its_opcode : (Instr.nopUnofficial 0xA2 (.imm 0)).wellFormed = false := by decide
theorem test_nop_zp_needs_its_opcode : (Instr.nopUnofficial 0x24 (.zp 0)).wellFormed = false := by decide
theorem test_nop_zp_x_needs_its_opcode : (Instr.nopUnofficial 0x04 (.zpX 0)).wellFormed = false := by decide
theorem test_nop_abs_needs_its_opcode : (Instr.nopUnofficial 0x1C (.abs 0)).wellFormed = false := by decide
theorem test_nop_abs_x_needs_its_opcode : (Instr.nopUnofficial 0x0C (.absX 0)).wellFormed = false := by decide

/-! ## Decode, word by word -/

/-- What the decoder reads from bytes that are one whole instruction. -/
def read (bytes : List Byte) : Option Instr :=
  match decode bytes with
  | .ok (i, []) => some i
  | .ok (_, _ :: _) => none
  | .error _ => none

theorem test_decode_loads :
    read [0xA9, 0x42] = some (.lda (.imm 0x42)) ∧ read [0xA5, 0x42] = some (.lda (.zp 0x42)) ∧
    read [0xB5, 0x42] = some (.lda (.zpX 0x42)) ∧ read [0xAD, 0x34, 0x12] = some (.lda (.abs 0x1234)) ∧
    read [0xBD, 0x34, 0x12] = some (.lda (.absX 0x1234)) ∧ read [0xB9, 0x34, 0x12] = some (.lda (.absY 0x1234)) ∧
    read [0xA1, 0x42] = some (.lda (.indX 0x42)) ∧ read [0xB1, 0x42] = some (.lda (.indY 0x42)) ∧
    read [0xA2, 0x42] = some (.ldx (.imm 0x42)) ∧ read [0xB6, 0x42] = some (.ldx (.zpY 0x42)) ∧
    read [0xBE, 0x34, 0x12] = some (.ldx (.absY 0x1234)) ∧ read [0xA0, 0x42] = some (.ldy (.imm 0x42)) ∧
    read [0xB4, 0x42] = some (.ldy (.zpX 0x42)) ∧ read [0xBC, 0x34, 0x12] = some (.ldy (.absX 0x1234)) := by decide

theorem test_decode_stores :
    read [0x85, 0x42] = some (.sta (.zp 0x42)) ∧ read [0x95, 0x42] = some (.sta (.zpX 0x42)) ∧
    read [0x8D, 0x34, 0x12] = some (.sta (.abs 0x1234)) ∧ read [0x9D, 0x34, 0x12] = some (.sta (.absX 0x1234)) ∧
    read [0x99, 0x34, 0x12] = some (.sta (.absY 0x1234)) ∧ read [0x81, 0x42] = some (.sta (.indX 0x42)) ∧
    read [0x91, 0x42] = some (.sta (.indY 0x42)) ∧ read [0x86, 0x42] = some (.stx (.zp 0x42)) ∧
    read [0x96, 0x42] = some (.stx (.zpY 0x42)) ∧ read [0x8E, 0x34, 0x12] = some (.stx (.abs 0x1234)) ∧
    read [0x84, 0x42] = some (.sty (.zp 0x42)) ∧ read [0x94, 0x42] = some (.sty (.zpX 0x42)) ∧
    read [0x8C, 0x34, 0x12] = some (.sty (.abs 0x1234)) := by decide

theorem test_decode_transfers_and_stack :
    read [0xAA] = some .tax ∧ read [0xA8] = some .tay ∧ read [0x8A] = some .txa ∧ read [0x98] = some .tya ∧
    read [0xBA] = some .tsx ∧ read [0x9A] = some .txs ∧ read [0x48] = some .pha ∧ read [0x08] = some .php ∧
    read [0x68] = some .pla ∧ read [0x28] = some .plp := by decide

theorem test_decode_arithmetic :
    read [0x69, 0x42] = some (.adc (.imm 0x42)) ∧ read [0x71, 0x42] = some (.adc (.indY 0x42)) ∧
    read [0xE9, 0x42] = some (.sbc (.imm 0x42)) ∧ read [0xFD, 0x34, 0x12] = some (.sbc (.absX 0x1234)) ∧
    read [0xC9, 0x42] = some (.cmp (.imm 0x42)) ∧ read [0xD5, 0x42] = some (.cmp (.zpX 0x42)) ∧
    read [0xE0, 0x42] = some (.cpx (.imm 0x42)) ∧ read [0xEC, 0x34, 0x12] = some (.cpx (.abs 0x1234)) ∧
    read [0xC0, 0x42] = some (.cpy (.imm 0x42)) ∧ read [0xC4, 0x42] = some (.cpy (.zp 0x42)) ∧
    read [0xE6, 0x42] = some (.inc (.zp 0x42)) ∧ read [0xFE, 0x34, 0x12] = some (.inc (.absX 0x1234)) ∧
    read [0xC6, 0x42] = some (.dec (.zp 0x42)) ∧ read [0xDE, 0x34, 0x12] = some (.dec (.absX 0x1234)) ∧
    read [0xE8] = some .inx ∧ read [0xC8] = some .iny ∧ read [0xCA] = some .dex ∧ read [0x88] = some .dey := by decide

theorem test_decode_logic_and_shifts :
    read [0x29, 0x42] = some (.and (.imm 0x42)) ∧ read [0x21, 0x42] = some (.and (.indX 0x42)) ∧
    read [0x09, 0x42] = some (.ora (.imm 0x42)) ∧ read [0x19, 0x34, 0x12] = some (.ora (.absY 0x1234)) ∧
    read [0x49, 0x42] = some (.eor (.imm 0x42)) ∧ read [0x4D, 0x34, 0x12] = some (.eor (.abs 0x1234)) ∧
    read [0x24, 0x42] = some (.bit (.zp 0x42)) ∧ read [0x2C, 0x34, 0x12] = some (.bit (.abs 0x1234)) ∧
    read [0x0A] = some (.asl .acc) ∧ read [0x1E, 0x34, 0x12] = some (.asl (.absX 0x1234)) ∧ read [0x4A] = some (.lsr .acc) ∧
    read [0x46, 0x42] = some (.lsr (.zp 0x42)) ∧ read [0x2A] = some (.rol .acc) ∧
    read [0x2E, 0x34, 0x12] = some (.rol (.abs 0x1234)) ∧ read [0x6A] = some (.ror .acc) ∧
    read [0x76, 0x42] = some (.ror (.zpX 0x42)) := by decide

theorem test_decode_control :
    read [0x4C, 0x34, 0x12] = some (.jmp (.abs 0x1234)) ∧ read [0x6C, 0x34, 0x12] = some (.jmp (.ind 0x1234)) ∧
    read [0x20, 0x34, 0x12] = some (.jsr 0x1234) ∧ read [0x60] = some .rts ∧ read [0x40] = some .rti ∧
    read [0x10, 0xFB] = some (.bpl 0xFB) ∧ read [0x30, 0xFB] = some (.bmi 0xFB) ∧ read [0x50, 0xFB] = some (.bvc 0xFB) ∧
    read [0x70, 0xFB] = some (.bvs 0xFB) ∧ read [0x90, 0xFB] = some (.bcc 0xFB) ∧ read [0xB0, 0xFB] = some (.bcs 0xFB) ∧
    read [0xD0, 0xFB] = some (.bne 0xFB) ∧ read [0xF0, 0xFB] = some (.beq 0xFB) ∧ read [0x00] = some .brk ∧
    read [0x18] = some .clc ∧ read [0x38] = some .sec ∧ read [0x58] = some .cli ∧ read [0x78] = some .sei ∧
    read [0xD8] = some .cld ∧ read [0xF8] = some .sed ∧ read [0xB8] = some .clv ∧ read [0xEA] = some .nop := by decide

theorem test_decode_unofficial :
    read [0x1A] = some (.nopUnofficial 0x1A .imp) ∧ read [0x80, 0x42] = some (.nopUnofficial 0x80 (.imm 0x42)) ∧
    read [0x44, 0x42] = some (.nopUnofficial 0x44 (.zp 0x42)) ∧ read [0xD4, 0x42] = some (.nopUnofficial 0xD4 (.zpX 0x42)) ∧
    read [0x0C, 0x34, 0x12] = some (.nopUnofficial 0x0C (.abs 0x1234)) ∧
    read [0xFC, 0x34, 0x12] = some (.nopUnofficial 0xFC (.absX 0x1234)) ∧ read [0xA7, 0x42] = some (.lax (.zp 0x42)) ∧
    read [0xB7, 0x42] = some (.lax (.zpY 0x42)) ∧ read [0xBF, 0x34, 0x12] = some (.lax (.absY 0x1234)) ∧
    read [0x87, 0x42] = some (.sax (.zp 0x42)) ∧ read [0x97, 0x42] = some (.sax (.zpY 0x42)) ∧
    read [0x83, 0x42] = some (.sax (.indX 0x42)) ∧ read [0xEB, 0x42] = some (.sbcUnofficial 0x42) ∧
    read [0x07, 0x42] = some (.slo (.zp 0x42)) ∧ read [0x3B, 0x34, 0x12] = some (.rla (.absY 0x1234)) ∧
    read [0x43, 0x42] = some (.sre (.indX 0x42)) ∧ read [0x73, 0x42] = some (.rra (.indY 0x42)) ∧
    read [0xDF, 0x34, 0x12] = some (.dcp (.absX 0x1234)) ∧ read [0xE7, 0x42] = some (.isb (.zp 0x42)) ∧
    read [0x0B, 0x42] = some (.anc 0x0B 0x42) ∧ read [0x2B, 0x42] = some (.anc 0x2B 0x42) ∧
    read [0x4B, 0x42] = some (.alr 0x42) ∧ read [0x6B, 0x42] = some (.arr 0x42) ∧
    read [0xCB, 0x42] = some (.sbx 0x42) := by decide

theorem test_decode_tier_three :
    read [0x02] = some (.jam 0x02) ∧ read [0xF2] = some (.jam 0xF2) ∧ read [0x8B, 0x42] = some (.ane 0x42) ∧
    read [0xAB, 0x42] = some (.lxa 0x42) ∧ read [0x93, 0x42] = some (.sha (.indY 0x42)) ∧
    read [0x9F, 0x34, 0x12] = some (.sha (.absY 0x1234)) ∧ read [0x9E, 0x34, 0x12] = some (.shx 0x1234) ∧
    read [0x9C, 0x34, 0x12] = some (.shy 0x1234) ∧ read [0x9B, 0x34, 0x12] = some (.tas 0x1234) ∧
    read [0xBB, 0x34, 0x12] = some (.las 0x1234) := by decide
theorem test_decode_needs_operands : read [] = none ∧ read [0xA9] = none ∧ read [0x4C, 0x34] = none ∧ read [0x60, 0x60] = none := by
  decide

theorem test_table_word : decodeTableWord 16 0x80A9 = some (.lda (.imm 0x80)) ∧ decodeTableWord 24 0x1234AD = some (.lda (.abs 0x1234)) ∧
    decodeTableWord 8 0x4C = some (.jmp (.abs 0)) := by decide

/-- The tiers' sizes (R112): 151 official, 85 unofficial and 20 unimplemented opcodes. -/
theorem test_tier_sizes :
    opTable.countP (·.tier == .official) = 151 ∧ opTable.countP (·.tier == .unofficial) = 85 ∧
    opTable.countP (·.tier == .unimplemented) = 20 := by decide +kernel

/-! ## One step -/

/-- The platform of 95_test_vectors.md: an image that is zero but for the vectors, a NOP at each handler and the code at PC; the
registers as given; RAM cells as given. -/
def start (pc : Addr) (a x y sp p : Byte) (cells : List HostWrite) (code : List Byte) : State :=
  let prg : Memory := [(0x1000, 0xEA), (0x2000, 0xEA), (0x3FFB, 0xA0), (0x3FFD, 0x80), (0x3FFF, 0x90)]
  let s : State := { State.reset with pc := pc, a := a, x := x, y := y, sp := sp, p := p, prg := prg }
  placeBytes code pc (applyWrites cells s)

def trap : Params := { Params.default with brkPolicy := .trap }

def official : Params := { Params.default with admitUnofficial := false }

/-- What a test looks at in a next state: the registers, P, PC, CYC, HALT_REASON and the bytes at some addresses. -/
structure Seen where
  a : Byte
  x : Byte
  y : Byte
  sp : Byte
  p : Byte
  pc : Addr
  cyc : Nat
  haltReason : HaltReason
  bytes : List Byte
  deriving DecidableEq, Repr

/-- What one step leaves. -/
def after (s : State) (addrs : List Addr) : Option Seen :=
  match step s with
  | .next t => some ⟨t.a, t.x, t.y, t.sp, t.p, t.pc, t.cyc, t.haltReason, addrs.map (readByte t)⟩
  | .fault _ => none
  | .refused _ => none

/-- V30.2: LDX $F0,Y zp,Y wraps. -/
theorem test_zp_y_wraps : after (start 0x8000 0x00 0x00 0x20 0xFD 0x24 [(0x0010, 0x07)] [0xB6, 0xF0]) [] =
    some ⟨0x00, 0x07, 0x20, 0xFD, 0x24, 0x8002, 4, .none, []⟩ := by decide

/-- V30.5: STA $12F0,X cross: no penalty. -/
theorem test_sta_abs_x_no_penalty : after (start 0x8000 0x5A 0x10 0x00 0xFD 0x24 [] [0x9D, 0xF0, 0x12]) [0x0300] =
    some ⟨0x5A, 0x10, 0x00, 0xFD, 0x24, 0x8003, 5, .none, [0x5A]⟩ := by decide

/-- V30.7: LDA ($FF,X) X=0 pointer wraps. -/
theorem test_ind_x_pointer_wraps : after (start 0x8000 0x00 0x00 0x00 0xFD 0x24 [(0x0000, 0x02), (0x00FF, 0x34), (0x0234, 0x77)] [0xA1, 0xFF]) [] =
    some ⟨0x77, 0x00, 0x00, 0xFD, 0x24, 0x8002, 6, .none, []⟩ := by decide

/-- V40.2: LDA #$80. -/
theorem test_lda : after (start 0x8000 0x00 0x00 0x00 0xFD 0x24 [] [0xA9, 0x80]) [] =
    some ⟨0x80, 0x00, 0x00, 0xFD, 0xA4, 0x8002, 2, .none, []⟩ := by decide

/-- V40.4: LDX $10. -/
theorem test_ldx : after (start 0x8000 0x00 0x00 0x00 0xFD 0x24 [(0x0010, 0xFF)] [0xA6, 0x10]) [] =
    some ⟨0x00, 0xFF, 0x00, 0xFD, 0xA4, 0x8002, 3, .none, []⟩ := by decide

/-- V40.5: LDY #$01. -/
theorem test_ldy : after (start 0x8000 0x00 0x00 0x00 0xFD 0x26 [] [0xA0, 0x01]) [] =
    some ⟨0x00, 0x00, 0x01, 0xFD, 0x24, 0x8002, 2, .none, []⟩ := by decide

/-- V40.6: STA $1800 mirror of $0000. -/
theorem test_sta : after (start 0x8000 0xAB 0x00 0x00 0xFD 0x24 [] [0x8D, 0x00, 0x18]) [0x0000] =
    some ⟨0xAB, 0x00, 0x00, 0xFD, 0x24, 0x8003, 4, .none, [0xAB]⟩ := by decide

/-- V40.9: STX $10,Y. -/
theorem test_stx : after (start 0x8000 0x00 0x9C 0xF5 0xFD 0x24 [] [0x96, 0x10]) [0x0005] =
    some ⟨0x00, 0x9C, 0xF5, 0xFD, 0x24, 0x8002, 4, .none, [0x9C]⟩ := by decide

/-- V40.10: STY $0200. -/
theorem test_sty : after (start 0x8000 0x00 0x00 0x00 0xFD 0x26 [] [0x8C, 0x00, 0x02]) [0x0200] =
    some ⟨0x00, 0x00, 0x00, 0xFD, 0x26, 0x8003, 4, .none, [0x00]⟩ := by decide

/-- V40.11: TAX of $00. -/
theorem test_tax : after (start 0x8000 0x00 0x33 0x00 0xFD 0x24 [] [0xAA]) [] =
    some ⟨0x00, 0x00, 0x00, 0xFD, 0x26, 0x8001, 2, .none, []⟩ := by decide

/-- V40.12: TAY of $80. -/
theorem test_tay : after (start 0x8000 0x80 0x00 0x00 0xFD 0x24 [] [0xA8]) [] =
    some ⟨0x80, 0x00, 0x80, 0xFD, 0xA4, 0x8001, 2, .none, []⟩ := by decide

/-- V40.13: TXA. -/
theorem test_txa : after (start 0x8000 0xFF 0x01 0x00 0xFD 0x24 [] [0x8A]) [] =
    some ⟨0x01, 0x01, 0x00, 0xFD, 0x24, 0x8001, 2, .none, []⟩ := by decide

/-- V40.14: TYA. -/
theorem test_tya : after (start 0x8000 0x00 0x00 0xF0 0xFD 0x24 [] [0x98]) [] =
    some ⟨0xF0, 0x00, 0xF0, 0xFD, 0xA4, 0x8001, 2, .none, []⟩ := by decide

/-- V40.15: TSX. -/
theorem test_tsx : after (start 0x8000 0x00 0x00 0x00 0xFD 0x24 [] [0xBA]) [] =
    some ⟨0x00, 0xFD, 0x00, 0xFD, 0xA4, 0x8001, 2, .none, []⟩ := by decide

/-- V40.16: TXS (no flags). -/
theorem test_txs : after (start 0x8000 0x00 0x00 0x00 0xFD 0x24 [] [0x9A]) [] =
    some ⟨0x00, 0x00, 0x00, 0x00, 0x24, 0x8001, 2, .none, []⟩ := by decide

/-- V41.2: PHA at SP=00 wraps. -/
theorem test_pha : after (start 0x8000 0x3C 0x00 0x00 0x00 0x24 [] [0x48]) [0x0100] =
    some ⟨0x3C, 0x00, 0x00, 0xFF, 0x24, 0x8001, 3, .none, [0x3C]⟩ := by decide

/-- V41.4: PHP from P=E7. -/
theorem test_php : after (start 0x8000 0x00 0x00 0x00 0xFD 0xE7 [] [0x08]) [0x01FD] =
    some ⟨0x00, 0x00, 0x00, 0xFC, 0xE7, 0x8001, 3, .none, [0xF7]⟩ := by decide

/-- V41.6: PLA at SP=FF wraps. -/
theorem test_pla : after (start 0x8000 0x00 0x00 0x00 0xFF 0x24 [(0x0100, 0x80)] [0x68]) [] =
    some ⟨0x80, 0x00, 0x00, 0x00, 0xA4, 0x8001, 4, .none, []⟩ := by decide

/-- V41.7: PLP of $FF. -/
theorem test_plp : after (start 0x8000 0x00 0x00 0x00 0xFC 0x24 [(0x01FD, 0xFF)] [0x28]) [] =
    some ⟨0x00, 0x00, 0x00, 0xFD, 0xEF, 0x8001, 4, .none, []⟩ := by decide

/-- V42.3: ADC #$80 (A=80,C=0). -/
theorem test_adc : after (start 0x8000 0x80 0x00 0x00 0xFD 0x24 [] [0x69, 0x80]) [] =
    some ⟨0x00, 0x00, 0x00, 0xFD, 0x67, 0x8002, 2, .none, []⟩ := by decide

/-- V42.6: ADC #$09 with D=1 (binary). -/
theorem test_adc_decimal : after (start 0x8000 0x09 0x00 0x00 0xFD 0x2C [] [0x69, 0x09]) [] =
    some ⟨0x12, 0x00, 0x00, 0xFD, 0x2C, 0x8002, 2, .none, []⟩ := by decide

/-- V42.8: SBC #$01 (A=80,C=1). -/
theorem test_sbc : after (start 0x8000 0x80 0x00 0x00 0xFD 0x25 [] [0xE9, 0x01]) [] =
    some ⟨0x7F, 0x00, 0x00, 0xFD, 0x65, 0x8002, 2, .none, []⟩ := by decide

/-- V42.12: CMP #$11 (A=10). -/
theorem test_cmp : after (start 0x8000 0x10 0x00 0x00 0xFD 0x24 [] [0xC9, 0x11]) [] =
    some ⟨0x10, 0x00, 0x00, 0xFD, 0xA4, 0x8002, 2, .none, []⟩ := by decide

/-- V42.14: CPX #$00 (X=80). -/
theorem test_cpx : after (start 0x8000 0x00 0x80 0x00 0xFD 0x24 [] [0xE0, 0x00]) [] =
    some ⟨0x00, 0x80, 0x00, 0xFD, 0xA5, 0x8002, 2, .none, []⟩ := by decide

/-- V42.15: CPY $10 (Y=01,[10]=02). -/
theorem test_cpy : after (start 0x8000 0x00 0x00 0x01 0xFD 0x24 [(0x0010, 0x02)] [0xC4, 0x10]) [] =
    some ⟨0x00, 0x00, 0x01, 0xFD, 0xA4, 0x8002, 3, .none, []⟩ := by decide

/-- V42.16: AND #$0F (A=F0). -/
theorem test_and : after (start 0x8000 0xF0 0x00 0x00 0xFD 0x24 [] [0x29, 0x0F]) [] =
    some ⟨0x00, 0x00, 0x00, 0xFD, 0x26, 0x8002, 2, .none, []⟩ := by decide

/-- V42.17: ORA #$80 (A=01). -/
theorem test_ora : after (start 0x8000 0x01 0x00 0x00 0xFD 0x24 [] [0x09, 0x80]) [] =
    some ⟨0x81, 0x00, 0x00, 0xFD, 0xA4, 0x8002, 2, .none, []⟩ := by decide

/-- V42.18: EOR #$FF (A=FF). -/
theorem test_eor : after (start 0x8000 0xFF 0x00 0x00 0xFD 0x24 [] [0x49, 0xFF]) [] =
    some ⟨0x00, 0x00, 0x00, 0xFD, 0x26, 0x8002, 2, .none, []⟩ := by decide

/-- V42.19: BIT $10 ([10]=C0,A=0F). -/
theorem test_bit : after (start 0x8000 0x0F 0x00 0x00 0xFD 0x24 [(0x0010, 0xC0)] [0x24, 0x10]) [] =
    some ⟨0x0F, 0x00, 0x00, 0xFD, 0xE6, 0x8002, 3, .none, []⟩ := by decide

/-- V42.21: INC $10 of FF. -/
theorem test_inc : after (start 0x8000 0x00 0x00 0x00 0xFD 0x24 [(0x0010, 0xFF)] [0xE6, 0x10]) [0x0010] =
    some ⟨0x00, 0x00, 0x00, 0xFD, 0x26, 0x8002, 5, .none, [0x00]⟩ := by decide

/-- V42.22: DEC $10 of 00. -/
theorem test_dec : after (start 0x8000 0x00 0x00 0x00 0xFD 0x24 [(0x0010, 0x00)] [0xC6, 0x10]) [0x0010] =
    some ⟨0x00, 0x00, 0x00, 0xFD, 0xA4, 0x8002, 5, .none, [0xFF]⟩ := by decide

/-- V42.24: INX of FF. -/
theorem test_inx : after (start 0x8000 0x00 0xFF 0x00 0xFD 0x24 [] [0xE8]) [] =
    some ⟨0x00, 0x00, 0x00, 0xFD, 0x26, 0x8001, 2, .none, []⟩ := by decide

/-- V42.25: INY of 7F. -/
theorem test_iny : after (start 0x8000 0x00 0x00 0x7F 0xFD 0x24 [] [0xC8]) [] =
    some ⟨0x00, 0x00, 0x80, 0xFD, 0xA4, 0x8001, 2, .none, []⟩ := by decide

/-- V42.26: DEX of 01. -/
theorem test_dex : after (start 0x8000 0x00 0x01 0x00 0xFD 0x24 [] [0xCA]) [] =
    some ⟨0x00, 0x00, 0x00, 0xFD, 0x26, 0x8001, 2, .none, []⟩ := by decide

/-- V42.27: DEY of 00. -/
theorem test_dey : after (start 0x8000 0x00 0x00 0x00 0xFD 0x24 [] [0x88]) [] =
    some ⟨0x00, 0x00, 0xFF, 0xFD, 0xA4, 0x8001, 2, .none, []⟩ := by decide

/-- V43.2: ASL $10 of 41. -/
theorem test_asl : after (start 0x8000 0x00 0x00 0x00 0xFD 0x24 [(0x0010, 0x41)] [0x06, 0x10]) [0x0010] =
    some ⟨0x00, 0x00, 0x00, 0xFD, 0xA4, 0x8002, 5, .none, [0x82]⟩ := by decide

/-- V43.3: LSR A of 01. -/
theorem test_lsr : after (start 0x8000 0x01 0x00 0x00 0xFD 0xA4 [] [0x4A]) [] =
    some ⟨0x00, 0x00, 0x00, 0xFD, 0x27, 0x8001, 2, .none, []⟩ := by decide

/-- V43.6: ROL A of 40, C=1. -/
theorem test_rol : after (start 0x8000 0x40 0x00 0x00 0xFD 0x25 [] [0x2A]) [] =
    some ⟨0x81, 0x00, 0x00, 0xFD, 0xA4, 0x8001, 2, .none, []⟩ := by decide

/-- V43.9: ROR $10,X of 02, C=1. -/
theorem test_ror : after (start 0x8000 0x00 0x01 0x00 0xFD 0x25 [(0x0010, 0x02)] [0x76, 0x0F]) [0x0010] =
    some ⟨0x00, 0x01, 0x00, 0xFD, 0xA4, 0x8002, 6, .none, [0x81]⟩ := by decide

/-- V44.2: JMP ($10FF) bug. -/
theorem test_jmp : after (start 0x8000 0x00 0x00 0x00 0xFD 0x24 [(0x1000, 0xC0), (0x10FF, 0x00), (0x1100, 0x80)] [0x6C, 0xFF, 0x10]) [] =
    some ⟨0x00, 0x00, 0x00, 0xFD, 0x24, 0xC000, 5, .none, []⟩ := by decide

/-- V44.5: JSR at SP=01. -/
theorem test_jsr : after (start 0x8000 0x00 0x00 0x00 0x01 0x24 [] [0x20, 0x10, 0x80]) [0x0100, 0x0101] =
    some ⟨0x00, 0x00, 0x00, 0xFF, 0x24, 0x8010, 6, .none, [0x02, 0x80]⟩ := by decide

/-- V44.7: RTS of FFFF. -/
theorem test_rts : after (start 0x8000 0x00 0x00 0x00 0xFB 0x24 [(0x01FC, 0xFF), (0x01FD, 0xFF)] [0x60]) [] =
    some ⟨0x00, 0x00, 0x00, 0xFD, 0x24, 0x0000, 6, .none, []⟩ := by decide

/-- V44.8: RTI. -/
theorem test_rti : after (start 0x8000 0x00 0x00 0x00 0xFA 0x24 [(0x01FB, 0xFF), (0x01FC, 0x34), (0x01FD, 0x12)] [0x40]) [] =
    some ⟨0x00, 0x00, 0x00, 0xFD, 0xEF, 0x1234, 6, .none, []⟩ := by decide

/-- V44.9: BPL +5 taken. -/
theorem test_bpl : after (start 0x8000 0x00 0x00 0x00 0xFD 0x24 [] [0x10, 0x05]) [] =
    some ⟨0x00, 0x00, 0x00, 0xFD, 0x24, 0x8007, 3, .none, []⟩ := by decide

/-- V44.11: BMI -2 taken (self). -/
theorem test_bmi : after (start 0x8000 0x00 0x00 0x00 0xFD 0xA4 [] [0x30, 0xFE]) [] =
    some ⟨0x00, 0x00, 0x00, 0xFD, 0xA4, 0x8000, 3, .none, []⟩ := by decide

/-- V44.12: BVC +$10 cross. -/
theorem test_bvc : after (start 0x80F0 0x00 0x00 0x00 0xFD 0x24 [] [0x50, 0x10]) [] =
    some ⟨0x00, 0x00, 0x00, 0xFD, 0x24, 0x8102, 4, .none, []⟩ := by decide

/-- V44.13: BVS not taken. -/
theorem test_bvs : after (start 0x8000 0x00 0x00 0x00 0xFD 0x24 [] [0x70, 0x10]) [] =
    some ⟨0x00, 0x00, 0x00, 0xFD, 0x24, 0x8002, 2, .none, []⟩ := by decide

/-- V44.14: BCC -$80 cross. -/
theorem test_bcc : after (start 0x8100 0x00 0x00 0x00 0xFD 0x24 [] [0x90, 0x80]) [] =
    some ⟨0x00, 0x00, 0x00, 0xFD, 0x24, 0x8082, 4, .none, []⟩ := by decide

/-- V44.15: BCS taken. -/
theorem test_bcs : after (start 0x8000 0x00 0x00 0x00 0xFD 0x25 [] [0xB0, 0x04]) [] =
    some ⟨0x00, 0x00, 0x00, 0xFD, 0x25, 0x8006, 3, .none, []⟩ := by decide

/-- V44.16: BNE -5 taken. -/
theorem test_bne : after (start 0x8005 0x00 0x00 0x00 0xFD 0x24 [] [0xD0, 0xFB]) [] =
    some ⟨0x00, 0x00, 0x00, 0xFD, 0x24, 0x8002, 3, .none, []⟩ := by decide

/-- V44.18: BEQ +0 taken. -/
theorem test_beq : after (start 0x8000 0x00 0x00 0x00 0xFD 0x26 [] [0xF0, 0x00]) [] =
    some ⟨0x00, 0x00, 0x00, 0xFD, 0x26, 0x8002, 3, .none, []⟩ := by decide

/-- V44.19: BRK (Halt policy). -/
theorem test_brk_halt : after (start 0x8000 0x12 0x00 0x00 0xFD 0xA5 [] [0x00, 0xEA]) [] =
    some ⟨0x12, 0x00, 0x00, 0xFD, 0xA5, 0x8001, 7, .brk 0x8000, []⟩ := by decide

/-- V44.20: BRK (Trap policy). -/
theorem test_brk_trap : after { start 0x8000 0x00 0x00 0x00 0xFD 0xA5 [] [0x00, 0xEA] with params := trap } [0x01FB, 0x01FC, 0x01FD] =
    some ⟨0x00, 0x00, 0x00, 0xFA, 0xA5, 0x9000, 7, .none, [0xB5, 0x02, 0x80]⟩ := by decide

/-- V45.1: CLC. -/
theorem test_clc : after (start 0x8000 0x00 0x00 0x00 0xFD 0x25 [] [0x18]) [] =
    some ⟨0x00, 0x00, 0x00, 0xFD, 0x24, 0x8001, 2, .none, []⟩ := by decide

/-- V45.2: SEC. -/
theorem test_sec : after (start 0x8000 0x00 0x00 0x00 0xFD 0x24 [] [0x38]) [] =
    some ⟨0x00, 0x00, 0x00, 0xFD, 0x25, 0x8001, 2, .none, []⟩ := by decide

/-- V45.3: CLI. -/
theorem test_cli : after (start 0x8000 0x00 0x00 0x00 0xFD 0x24 [] [0x58]) [] =
    some ⟨0x00, 0x00, 0x00, 0xFD, 0x20, 0x8001, 2, .none, []⟩ := by decide

/-- V45.4: SEI. -/
theorem test_sei : after (start 0x8000 0x00 0x00 0x00 0xFD 0x20 [] [0x78]) [] =
    some ⟨0x00, 0x00, 0x00, 0xFD, 0x24, 0x8001, 2, .none, []⟩ := by decide

/-- V45.5: CLD. -/
theorem test_cld : after (start 0x8000 0x00 0x00 0x00 0xFD 0x2C [] [0xD8]) [] =
    some ⟨0x00, 0x00, 0x00, 0xFD, 0x24, 0x8001, 2, .none, []⟩ := by decide

/-- V45.6: SED. -/
theorem test_sed : after (start 0x8000 0x00 0x00 0x00 0xFD 0x24 [] [0xF8]) [] =
    some ⟨0x00, 0x00, 0x00, 0xFD, 0x2C, 0x8001, 2, .none, []⟩ := by decide

/-- V45.7: CLV. -/
theorem test_clv : after (start 0x8000 0x00 0x00 0x00 0xFD 0x64 [] [0xB8]) [] =
    some ⟨0x00, 0x00, 0x00, 0xFD, 0x24, 0x8001, 2, .none, []⟩ := by decide

/-- V45.8: NOP. -/
theorem test_nop : after (start 0x8000 0x5A 0x00 0x00 0xFD 0xE7 [] [0xEA]) [] =
    some ⟨0x5A, 0x00, 0x00, 0xFD, 0xE7, 0x8001, 2, .none, []⟩ := by decide

/-- V46.3: NOP $1234,X cross (1C). -/
theorem test_nop_unofficial : after (start 0x8000 0x00 0xD0 0x00 0xFD 0x24 [] [0x1C, 0x34, 0x12]) [] =
    some ⟨0x00, 0xD0, 0x00, 0xFD, 0x24, 0x8003, 5, .none, []⟩ := by decide

/-- V46.5: LAX ($20),Y cross. -/
theorem test_lax : after (start 0x8000 0x00 0x00 0x10 0xFD 0x24 [(0x0020, 0xF8), (0x0021, 0x02), (0x0308, 0x00)] [0xB3, 0x20]) [] =
    some ⟨0x00, 0x00, 0x10, 0xFD, 0x26, 0x8002, 6, .none, []⟩ := by decide

/-- V46.6: SAX $10. -/
theorem test_sax : after (start 0x8000 0xF0 0x3C 0x00 0xFD 0x24 [] [0x87, 0x10]) [0x0010] =
    some ⟨0xF0, 0x3C, 0x00, 0xFD, 0x24, 0x8002, 3, .none, [0x30]⟩ := by decide

/-- V46.7: SBC #$F0 (EB). -/
theorem test_sbc_unofficial : after (start 0x8000 0x50 0x00 0x00 0xFD 0x25 [] [0xEB, 0xF0]) [] =
    some ⟨0x60, 0x00, 0x00, 0xFD, 0x24, 0x8002, 2, .none, []⟩ := by decide

/-- V46.8: SLO $10. -/
theorem test_slo : after (start 0x8000 0x01 0x00 0x00 0xFD 0x24 [(0x0010, 0x81)] [0x07, 0x10]) [0x0010] =
    some ⟨0x03, 0x00, 0x00, 0xFD, 0x25, 0x8002, 5, .none, [0x02]⟩ := by decide

/-- V46.9: RLA $10. -/
theorem test_rla : after (start 0x8000 0xFF 0x00 0x00 0xFD 0x24 [(0x0010, 0x81)] [0x27, 0x10]) [0x0010] =
    some ⟨0x02, 0x00, 0x00, 0xFD, 0x25, 0x8002, 5, .none, [0x02]⟩ := by decide

/-- V46.10: SRE $10. -/
theorem test_sre : after (start 0x8000 0x01 0x00 0x00 0xFD 0x24 [(0x0010, 0x03)] [0x47, 0x10]) [0x0010] =
    some ⟨0x00, 0x00, 0x00, 0xFD, 0x27, 0x8002, 5, .none, [0x01]⟩ := by decide

/-- V46.11: RRA $10. -/
theorem test_rra : after (start 0x8000 0x10 0x00 0x00 0xFD 0x25 [(0x0010, 0x02)] [0x67, 0x10]) [0x0010] =
    some ⟨0x91, 0x00, 0x00, 0xFD, 0xA4, 0x8002, 5, .none, [0x81]⟩ := by decide

/-- V46.12: DCP $10. -/
theorem test_dcp : after (start 0x8000 0x10 0x00 0x00 0xFD 0x24 [(0x0010, 0x11)] [0xC7, 0x10]) [0x0010] =
    some ⟨0x10, 0x00, 0x00, 0xFD, 0x27, 0x8002, 5, .none, [0x10]⟩ := by decide

/-- V46.15: ISB $10 of FF. -/
theorem test_isb : after (start 0x8000 0x00 0x00 0x00 0xFD 0x25 [(0x0010, 0xFF)] [0xE7, 0x10]) [0x0010] =
    some ⟨0x00, 0x00, 0x00, 0xFD, 0x27, 0x8002, 5, .none, [0x00]⟩ := by decide

/-- V46.16: ANC #$80 (0B). -/
theorem test_anc : after (start 0x8000 0xF0 0x00 0x00 0xFD 0x24 [] [0x0B, 0x80]) [] =
    some ⟨0x80, 0x00, 0x00, 0xFD, 0xA5, 0x8002, 2, .none, []⟩ := by decide

/-- V46.17: ALR #$03. -/
theorem test_alr : after (start 0x8000 0xFF 0x00 0x00 0xFD 0x24 [] [0x4B, 0x03]) [] =
    some ⟨0x01, 0x00, 0x00, 0xFD, 0x25, 0x8002, 2, .none, []⟩ := by decide

/-- V46.18: ARR #$80 (C=0). -/
theorem test_arr : after (start 0x8000 0xFF 0x00 0x00 0xFD 0x24 [] [0x6B, 0x80]) [] =
    some ⟨0x40, 0x00, 0x00, 0xFD, 0x65, 0x8002, 2, .none, []⟩ := by decide

/-- V46.21: SBX #$10 (borrow). -/
theorem test_sbx : after (start 0x8000 0x0F 0xFF 0x00 0xFD 0x24 [] [0xCB, 0x10]) [] =
    some ⟨0x0F, 0xFF, 0x00, 0xFD, 0xA4, 0x8002, 2, .none, []⟩ := by decide

/-- V46.22: LAX $10 with ADMIT_UNOFFICIAL=false. -/
theorem test_tier2_not_admitted : after { start 0x8000 0x00 0x00 0x00 0xFD 0x24 [(0x0010, 0x80)] [0xA7, 0x10] with params := official } [] =
    some ⟨0x00, 0x00, 0x00, 0xFD, 0x24, 0x8000, 0, .illegalOpcode 0xA7 0x8000, []⟩ := by decide

/-- V60.1: JAM 02 (tier 3). -/
theorem test_jam : after (start 0x8000 0x00 0x00 0x00 0xFD 0x24 [] [0x02]) [] =
    some ⟨0x00, 0x00, 0x00, 0xFD, 0x24, 0x8000, 0, .illegalOpcode 0x02 0x8000, []⟩ := by decide

/-- V60.2: LAS BB (tier 3). -/
theorem test_las : after (start 0x8000 0x00 0x00 0x00 0xFD 0x24 [] [0xBB, 0x00, 0x02]) [] =
    some ⟨0x00, 0x00, 0x00, 0xFD, 0x24, 0x8000, 0, .illegalOpcode 0xBB 0x8000, []⟩ := by decide

/-- V60.3: NMI pending (NMI_PENDING=1), then NOP at A000. -/
theorem test_nmi : after { start 0x8000 0x00 0x00 0x00 0xFD 0x24 [] [0xEA] with nmiPending := true } [0x01FB, 0x01FC, 0x01FD] =
    some ⟨0x00, 0x00, 0x00, 0xFA, 0x24, 0xA001, 9, .none, [0x24, 0x00, 0x80]⟩ := by decide

/-- V60.5: IRQ_LEVEL=1, I=0: taken, then NOP at 9000. -/
theorem test_irq : after { start 0x8000 0x00 0x00 0x00 0xFD 0x20 [] [0xEA] with irqLevel := true } [0x01FB, 0x01FC, 0x01FD] =
    some ⟨0x00, 0x00, 0x00, 0xFA, 0x24, 0x9001, 9, .none, [0x20, 0x00, 0x80]⟩ := by decide

/-! ## Placing an instruction -/

/-- withFetchWord on the reset state: the very next step runs the placed instruction. -/
theorem test_withFetchWord_reset :
    after (State.reset.withFetchWord 16 0x80A9) [0x0000, 0x0001] = some ⟨0x80, 0, 0, 0xFD, 0xA4, 0x0002, 2, .none, [0xA9, 0x80]⟩ := by
  decide

/-- At the last address of the image the bytes wrap to RAM, as a fetch does (10_state.md R28). -/
theorem test_withFetchWord_wraps :
    after ((State.reset.setPc 0xFFFF).withFetchWord 24 0x1234AD) [0xFFFF, 0x0000, 0x0001] =
      some ⟨0, 0, 0, 0xFD, 0x26, 0x0002, 4, .none, [0xAD, 0x34, 0x12]⟩ := by decide

/-! ## Witnesses of the obligations' hypotheses -/

theorem witness_DecodeEncodeRoundTrip :
    (Instr.anc 0x2B 0xFF).wellFormed = true ∧ (Instr.jam 0xF2).wellFormed = true ∧
    (Instr.nopUnofficial 0xFC (.absX 0xFFFF)).wellFormed = true ∧ (Instr.lda (.absX 0xFFFF)).wellFormed = true := by decide

theorem witness_DecodedBytesReencode : decode [0x6C, 0xFF, 0x02, 0xEA] = .ok (.jmp (.ind 0x02FF), [0xEA]) := rfl

/-- Boundary values: the two ends of RAM's mirrors, and the first address outside RAM. -/
theorem witness_RamWritesReachEveryAlias :
    RamAlias 0x07FF 0x1FFF ∧ RamAlias 0x0000 0x1800 ∧ ¬ RamAlias 0x0000 0x07FF ∧ ¬ RamAlias 0x1800 0x2000 := by
  simp [RamAlias]

theorem witness_DroppedWritesAndStubReads :
    0x2000 ≤ (0x2000 : Addr).toNat ∧ (0x2000 : Addr).toNat ≤ 0x7FFF ∧ 0x2000 ≤ (0x7FFF : Addr).toNat ∧
    0x2000 ≤ (0x8000 : Addr).toNat ∧ 0x2000 ≤ (0xFFFF : Addr).toNat := by decide

theorem witness_PrgWindow :
    State.reset.prgSize = .kib16 ∧ 0x3FFF < 0x4000 ∧ { State.reset with prgSize := .kib32 }.prgSize = .kib32 ∧ 0x7FFF < 0x8000 := by
  decide

theorem witness_SubtractWithBorrow : State.reset.params.admitUnofficial = true := rfl

theorem witness_StoreInstructions : State.reset.params.admitUnofficial = true := rfl

theorem witness_ShiftsAndRotates :
    (ShiftOperand.zp 0).toMem = some (.zp 0) ∧ (ShiftOperand.zpX 0xFF).toMem = some (.zpX 0xFF) ∧
    (ShiftOperand.abs 0x8000).toMem = some (.abs 0x8000) ∧ (ShiftOperand.absX 0xFFFF).toMem = some (.absX 0xFFFF) := by decide

theorem witness_BreakTrapTakesException : { State.reset with params := trap }.params.brkPolicy = .trap := rfl

theorem witness_BreakHaltStopsRun :
    State.reset.params.brkPolicy = .halt ∧ State.reset.run = .running ∧ interruptCheck State.reset = State.reset ∧
    readByte State.reset State.reset.pc = 0x00 := by decide

theorem witness_UnofficialNops :
    (Instr.nopUnofficial 0xFA .imp).wellFormed = true ∧ (Instr.nopUnofficial 0xE2 (.imm 0)).wellFormed = true ∧
    (Instr.nopUnofficial 0x64 (.zp 0)).wellFormed = true ∧ (Instr.nopUnofficial 0xF4 (.zpX 0)).wellFormed = true ∧
    (Instr.nopUnofficial 0x0C (.abs 0)).wellFormed = true ∧ (Instr.nopUnofficial 0xFC (.absX 0)).wellFormed = true ∧
    State.reset.params.admitUnofficial = true := by decide

theorem witness_LoadAAndX : State.reset.params.admitUnofficial = true := rfl

theorem witness_ShiftAndCombine : State.reset.params.admitUnofficial = true := rfl

theorem witness_RotateAddAndIncrementSubtract : State.reset.params.admitUnofficial = true := rfl

theorem witness_DecrementCompare : State.reset.params.admitUnofficial = true := rfl

theorem witness_UnofficialImmediates :
    State.reset.params.admitUnofficial = true ∧ (Instr.anc 0x0B 0).wellFormed = true ∧ (Instr.anc 0x2B 0).wellFormed = true := by
  decide

/-- One witness of each clause: tier 3, tier 2 not admitted, and a JAM. -/
theorem witness_IllegalOpcodeHalts :
    (Instr.las 0).wellFormed = true ∧ (entry (Instr.las 0).opcode).tier = .unimplemented ∧
    (Instr.lax (.zp 0)).wellFormed = true ∧ (entry (Instr.lax (.zp 0)).opcode).tier = .unofficial ∧
    { State.reset with params := official }.params.admitUnofficial = false ∧ (Instr.jam 0x92).wellFormed = true := by decide

theorem witness_StepIllegalOpcodeIsPrecise :
    let s := start 0x8000 0 0 0 0xFD 0x24 [] [0x02]
    s.run = .running ∧ (entry (readByte (interruptCheck s) (interruptCheck s).pc)).tier = .unimplemented ∧
    (let u : State := { start 0x8000 0 0 0 0xFD 0x20 [] [] with prg := [(0x1000, 0xA7), (0x3FFF, 0x90)], irqLevel := true, params := official }
     (entry (readByte (interruptCheck u) (interruptCheck u).pc)).tier = .unofficial ∧ u.params.admitUnofficial = false) := by decide

theorem witness_InterruptEntry :
    ((0xFFFA : Addr) = 0xFFFA ∨ (0xFFFA : Addr) = 0xFFFE) ∧ ((0xFFFE : Addr) = 0xFFFA ∨ (0xFFFE : Addr) = 0xFFFE) := by decide

/-- One state for each clause: NMI, IRQ unmasked, IRQ masked, and neither. -/
theorem witness_InterruptPriority :
    (requestNmi State.reset).nmiPending = true ∧
    ((driveIrq true State.reset).setFlag .i false).nmiPending = false ∧
    ((driveIrq true State.reset).setFlag .i false).irqLevel = true ∧ ((driveIrq true State.reset).setFlag .i false).flag .i = false ∧
    (driveIrq true State.reset).flag .i = true ∧ State.reset.irqLevel = false ∧ State.reset.nmiPending = false := by decide

theorem witness_ClearedMaskTakesEffectAtOnce :
    (driveIrq true State.reset).irqLevel = true ∧ (driveIrq true State.reset).nmiPending = false := by decide

theorem witness_OnlyListedInstructionsWriteRegisters :
    ∃ t, exec (.inc (.zp 0x10)) State.reset = .next t ∧ Register.a ∉ registersWritten State.reset.params.brkPolicy (.inc (.zp 0x10)) :=
  ⟨_, rfl, by decide⟩

theorem witness_UnlistedFlagsUntouched :
    ∃ t, exec (.inc (.zp 0x10)) State.reset = .next t ∧ Flag.c ∉ flagsWritten State.reset.params.brkPolicy (.inc (.zp 0x10)) :=
  ⟨_, rfl, by decide⟩

/-- The byte beside the one stored to is outside it, and an alias of it is not. -/
theorem witness_OnlyStoredBytesChange :
    (∃ t, exec (.inc (.zp 0x10)) State.reset = .next t) ∧ storedAddrs (.inc (.zp 0x10)) State.reset = [0x0010] ∧
    ¬ RamAlias 0x0010 0x0011 ∧ RamAlias 0x0010 0x0810 :=
  ⟨⟨_, rfl⟩, by decide, by simp [RamAlias], by simp [RamAlias]⟩

theorem witness_InstructionsKeepSurroundings :
    admitted State.reset (Instr.inc (.zp 0x10)).opcode = true ∧ (Instr.inc (.zp 0x10)).wellFormed = true ∧
    ∃ t, exec (.inc (.zp 0x10)) State.reset = .next t := ⟨rfl, rfl, _, rfl⟩

theorem witness_DecimalFlagIsInert :
    Instr.adc (.imm 0x09) ∉ ([.php, .plp, .rti, .brk, .cld, .sed] : List Instr) ∧
    ∃ t, exec (.adc (.imm 0x09)) State.reset = .next t := ⟨by decide, _, rfl⟩

/-- One state for each branch: an official opcode, BRK under Halt, and a tier-3 opcode. -/
theorem witness_StepRunsDecodedInstruction :
    State.reset.run = .running ∧
    decode (fetchBytes (start 0x8000 0 0 0 0xFD 0x24 [] [0x8D, 0x34, 0x12])) = .ok (.sta (.abs 0x1234), []) ∧
    decode (fetchBytes State.reset) = .ok (.brk, [0, 0]) ∧
    decode (fetchBytes (start 0x8000 0 0 0 0xFD 0x24 [] [0x02])) = .ok (.jam 0x02, [0, 0]) := ⟨rfl, rfl, rfl, rfl⟩

theorem witness_StepsExactlyWhileRunning :
    State.reset.run = .running ∧ (hostStop State.reset).run ≠ .running ∧
    (constructed [] .kib16 [] Params.default).run ≠ .running := by decide

/-- Three writes of one call, the second of which is the last at its byte, and a byte that none of them touches. -/
theorem witness_HookWritesMemoryOnly :
    let call : List HostWrite := [(0x0801, 0x11), (0x0001, 0x22), (0x0002, 0x33)]
    ({ State.reset with hook := [call] }).hook = ([(0x0801, 0x11)] ++ (0x0001, 0x22) :: [(0x0002, 0x33)]) :: [] ∧
    RamAlias 0x0001 0x1801 ∧ (∀ wr ∈ ([(0x0002, 0x33)] : List HostWrite), ¬ RamAlias wr.1 0x1801) ∧
    ∀ wr ∈ call, ¬ RamAlias wr.1 0x0003 := by
  refine ⟨rfl, by simp [RamAlias], ?_, ?_⟩
  all_goals
    intro wr h
    simp only [List.mem_cons, List.not_mem_nil, or_false] at h
  · subst h; simp [RamAlias]
  · obtain rfl | rfl | rfl := h <;> simp [RamAlias]

theorem witness_StepKeepsImageAndParameters : ∃ t, step (start 0x8000 0 0 0 0xFD 0x24 [] [0xEA]) = .next t := ⟨_, rfl⟩

theorem witness_ResetEstablishesInvariant :
    Memory.wf Config.ramBytes [(0x0010, 0x34), (0x07FF, 0x01)] = true ∧ Memory.wf PrgSize.kib16.bytes [(0x3FFD, 0x80)] = true := by decide

theorem witness_StepKeepsInvariant :
    (start 0x8000 0 0 0 0xFD 0x24 [(0x0010, 0x34)] [0xE6, 0x10]).Inv ∧
    ∃ t, step (start 0x8000 0 0 0 0xFD 0x24 [(0x0010, 0x34)] [0xE6, 0x10]) = .next t :=
  ⟨⟨by decide, by decide, by decide, by decide, .inl ⟨rfl, rfl⟩⟩, _, rfl⟩

theorem witness_SingleBreakFromReset :
    Memory.get [(0x3FFD, 0x80)] 0x0000 = 0x00 ∧ Memory.get [(0x3FFD, 0x80)] 0x3FFC = 0x00 ∧
    Memory.get [(0x3FFD, 0x80)] 0x3FFD = 0x80 ∧ Params.default.brkPolicy = .halt := by decide

/-- A form of each tier that TableColumnsFollowInstructionRules speaks of. -/
theorem witness_TableColumnsFollowInstructionRules :
    (∃ l ∈ officialLines, (0x9D, .absoluteX, 5) ∈ l.forms) ∧ (∃ l ∈ unofficialLines, (0xF3, .indirectIndexed, 8) ∈ l.forms) ∧
    (0xBB, .las, .absoluteY) ∈ unimplementedOpcodes := by decide

end Sys2Proof.Tests
end

section
/-! PROOFS. What exec can do to the surroundings of an instruction, said once for every constructor of Instr: it always answers a
next state, which either has the surroundings of the old one or is IllegalOpcode (10_state.md R47, R55, 60_exceptions.md R301). -/

namespace Sys2Proof.Machine

/-! ## The bus write and the pushes keep the surroundings -/

theorem writeByte_sameSurroundings (s : State) (addr : Addr) (v : Byte) : SameSurroundings s (writeByte s addr v) := by
  simp [SameSurroundings]

theorem SameSurroundings.trans {s t u : State} (hst : SameSurroundings s t) (htu : SameSurroundings t u) :
    SameSurroundings s u := by
  obtain ⟨hrun, hhalt, hnmi, hirq, hprg, hsize, hhook, hparams⟩ := hst
  obtain ⟨hrun', hhalt', hnmi', hirq', hprg', hsize', hhook', hparams'⟩ := htu
  exact ⟨hrun'.trans hrun, hhalt'.trans hhalt, hnmi'.trans hnmi, hirq'.trans hirq, hprg'.trans hprg, hsize'.trans hsize,
    hhook'.trans hhook, hparams'.trans hparams⟩

/-! ## The shape of every outcome -/

/-- The outcome `r` of `i` at `s` is a next state: of an admitted opcode, one with the surroundings of `s`; or IllegalOpcode, which
for a term the opcode table has means that the opcode is not admitted. -/
def RunsOrRaises (i : Instr) (s : State) (r : Result) : Prop :=
  ∃ t, r = .next t ∧
    (admitted s i.opcode = true ∧ SameSurroundings s t ∨
      (i.wellFormed = true → admitted s i.opcode = false) ∧ t = raiseIllegalOpcode i.opcode s)

section
variable {i : Instr} {s : State}

theorem perform_runsOrRaises {cr : Bool} {effect : State → State} (h : SameSurroundings s (effect s)) :
    RunsOrRaises i s (perform i cr effect s) := by
  cases ha : admitted s i.opcode with
  | true => exact ⟨_, perform_of_admitted ha, .inl ⟨ha, h⟩⟩
  | false => exact ⟨_, perform_of_not_admitted ha, .inr ⟨fun _ => ha, rfl⟩⟩

theorem performJump_runsOrRaises {extra : Nat} {effect : State → State} (h : SameSurroundings s (effect s)) :
    RunsOrRaises i s (performJump i extra effect s) := by
  cases ha : admitted s i.opcode with
  | true => exact ⟨_, performJump_of_admitted ha, .inl ⟨ha, h⟩⟩
  | false => exact ⟨_, performJump_of_not_admitted ha, .inr ⟨fun _ => ha, rfl⟩⟩

theorem performRead_runsOrRaises {o : ReadOperand} {effect : Byte → State → State}
    (h : ∀ m, SameSurroundings s (effect m s)) : RunsOrRaises i s (performRead i o effect s) :=
  perform_runsOrRaises (h _)

theorem performStore_runsOrRaises {m : MemMode} {value : State → Byte} : RunsOrRaises i s (performStore i m value s) :=
  perform_runsOrRaises (writeByte_sameSurroundings ..)

theorem performModify_runsOrRaises {m : MemMode} {result : Byte → State → Byte} {after : Byte → Byte → State → State}
    (h : ∀ v r u, SameSurroundings u (after v r u)) : RunsOrRaises i s (performModify i m result after s) := by
  unfold performModify
  exact perform_runsOrRaises ((writeByte_sameSurroundings ..).trans (h ..))

theorem performBranch_runsOrRaises {cond : Bool} {r : Byte} : RunsOrRaises i s (performBranch i cond r s) := by
  unfold performBranch
  split
  · exact performJump_runsOrRaises (by simp [SameSurroundings])
  · exact perform_runsOrRaises (by simp [SameSurroundings])

theorem performShift_runsOrRaises {o : ShiftOperand} {f : Byte → Bool → ShiftResult} :
    RunsOrRaises i s (performShift i o f s) := by
  unfold performShift
  split
  · exact perform_runsOrRaises (by simp [SameSurroundings])
  · exact performModify_runsOrRaises (by simp [SameSurroundings])

/-- A meaning that is IllegalOpcode whatever the parameters: the opcode of the well-formed term is of tier 3 (R113). -/
theorem raiseIllegalOpcode_runsOrRaises (h : i.wellFormed = true → (entry i.opcode).tier = .unimplemented) :
    RunsOrRaises i s (.next (raiseIllegalOpcode i.opcode s)) :=
  ⟨_, rfl, .inr ⟨fun hw => not_admitted_iff.2 (.inl (h hw)), rfl⟩⟩
end

theorem jamOpcodes_unimplemented : ∀ op ∈ jamOpcodes, (entry op).tier = .unimplemented := by decide

theorem execBrk_runsOrRaises (s : State) : RunsOrRaises .brk s (execBrk s) := by
  unfold execBrk
  split
  · exact perform_runsOrRaises (by simp [SameSurroundings])
  · exact performJump_runsOrRaises (by simp [SameSurroundings])

theorem execNopUnofficial_runsOrRaises (op : Byte) (o : NopOperand) (s : State) :
    RunsOrRaises (.nopUnofficial op o) s (execNopUnofficial op o s) := by
  unfold execNopUnofficial
  split
  · exact perform_runsOrRaises (by simp [SameSurroundings])
  · exact performRead_runsOrRaises (by simp [SameSurroundings])

/-- Every instruction, by the shared operation its meaning is written with. -/
theorem exec_runsOrRaises (i : Instr) (s : State) : RunsOrRaises i s (exec i s) := by
  unfold exec
  cases i with
  | tax | tay | txa | tya | tsx | txs | inx | iny | dex | dey | pha | php | pla | plp
  | clc | sec | cli | sei | cld | sed | clv | nop =>
    exact perform_runsOrRaises (by simp [SameSurroundings])
  | lda | ldx | ldy | adc | sbc | cmp | cpx | cpy | and | ora | eor | bit
  | lax | sbcUnofficial | anc | alr | arr | sbx => exact performRead_runsOrRaises (by simp [SameSurroundings])
  | sta | stx | sty | sax => exact performStore_runsOrRaises
  | inc | dec | slo | rla | sre | rra | dcp | isb => exact performModify_runsOrRaises (by simp [SameSurroundings])
  | asl | lsr | rol | ror => exact performShift_runsOrRaises
  | jmp | jsr | rts | rti => exact performJump_runsOrRaises (by simp [SameSurroundings])
  | bpl | bmi | bvc | bvs | bcc | bcs | bne | beq => exact performBranch_runsOrRaises
  | brk => exact execBrk_runsOrRaises s
  | nopUnofficial op o => exact execNopUnofficial_runsOrRaises op o s
  | jam op => exact raiseIllegalOpcode_runsOrRaises fun hw => jamOpcodes_unimplemented op (List.contains_iff_mem.1 hw)
  | sha o => exact raiseIllegalOpcode_runsOrRaises fun _ => by cases o <;> rfl
  | ane | lxa | shx | shy | tas | las => exact raiseIllegalOpcode_runsOrRaises fun _ => rfl

/-- What an exec that answered `t` did: it ran the admitted instruction within its surroundings, or it raised IllegalOpcode. -/
theorem exec_next {i : Instr} {s t : State} (h : exec i s = .next t) :
    admitted s i.opcode = true ∧ SameSurroundings s t ∨
    (i.wellFormed = true → admitted s i.opcode = false) ∧ t = raiseIllegalOpcode i.opcode s := by
  obtain ⟨u, hu, hcases⟩ := exec_runsOrRaises i s
  obtain rfl : u = t := by simpa [hu] using h
  exact hcases

end Sys2Proof.Machine
end

section
/-! PROOFS. What the launch fixes and the platform drives: the image, its size, the parameters and IRQ_LEVEL, through the parts of a
step (10_state.md R52, R55). -/

namespace Sys2Proof.Machine

/-- The image, its size, the parameters and IRQ_LEVEL are as before. -/
def SameLaunch (s t : State) : Prop :=
  t.prg = s.prg ∧ t.prgSize = s.prgSize ∧ t.params = s.params ∧ t.irqLevel = s.irqLevel

theorem SameLaunch.refl (s : State) : SameLaunch s s := ⟨rfl, rfl, rfl, rfl⟩

theorem SameLaunch.trans {s t u : State} (hst : SameLaunch s t) (htu : SameLaunch t u) : SameLaunch s u := by
  obtain ⟨hprg, hsize, hparams, hirq⟩ := hst
  obtain ⟨hprg', hsize', hparams', hirq'⟩ := htu
  exact ⟨hprg'.trans hprg, hsize'.trans hsize, hparams'.trans hparams, hirq'.trans hirq⟩

theorem SameSurroundings.sameLaunch {s t : State} (h : SameSurroundings s t) : SameLaunch s t := by
  obtain ⟨-, -, -, hirq, hprg, hsize, -, hparams⟩ := h
  exact ⟨hprg, hsize, hparams, hirq⟩

theorem interruptCheck_sameLaunch (s : State) : SameLaunch s (interruptCheck s) := by
  obtain ⟨-, -, -, -, hirq, hprg, hsize, -, hparams⟩ := interruptCheck_keeps s
  exact ⟨hprg, hsize, hparams, hirq⟩

theorem exec_sameLaunch {i : Instr} {s t : State} (h : exec i s = .next t) : SameLaunch s t := by
  obtain ⟨-, hsame⟩ | ⟨-, rfl⟩ := exec_next h
  · exact hsame.sameLaunch
  · exact .refl s

theorem runHook_sameLaunch (s : State) : SameLaunch s (runHook s) := by simp [SameLaunch]

theorem haltCheck_sameLaunch (op : Byte) (pc0 : Addr) (s : State) : SameLaunch s (haltCheck op pc0 s) := by
  unfold haltCheck
  split <;> exact .refl s

theorem afterExec_sameLaunch (i : Instr) (s0 s1 : State) : SameLaunch s1 (afterExec i s0 s1) := by
  unfold afterExec
  split
  · exact (runHook_sameLaunch s1).trans (haltCheck_sameLaunch ..)
  · exact .refl s1

/-- Settles O54: the interrupt check, exec, and the hook with the halt check each keep the image, its size, the parameters and
IRQ_LEVEL. -/
theorem stepKeepsImageAndParameters : Obligations.StepKeepsImageAndParameters := by
  intro s t h
  obtain ⟨-, s1, hexec, rfl⟩ := step_next h
  exact ((interruptCheck_sameLaunch s).trans (exec_sameLaunch hexec)).trans (afterExec_sameLaunch ..)

end Sys2Proof.Machine
end

section
/-! PROOFS. The reset sequence field by field (70_reset_and_hazards.md R341, R342). -/

namespace Sys2Proof.Machine

section
variable (s : State)
@[simp] theorem hostReset_a : (hostReset s).a = 0 := rfl
@[simp] theorem hostReset_x : (hostReset s).x = 0 := rfl
@[simp] theorem hostReset_y : (hostReset s).y = 0 := rfl
@[simp] theorem hostReset_sp : (hostReset s).sp = s.params.spReset := rfl
@[simp] theorem hostReset_p : (hostReset s).p = 0x24 := rfl
@[simp] theorem hostReset_pc : (hostReset s).pc = word16 (readByte s 0xFFFD) (readByte s 0xFFFC) := rfl
@[simp] theorem hostReset_cyc : (hostReset s).cyc = s.params.resetCycles := rfl
@[simp] theorem hostReset_nmiPending : (hostReset s).nmiPending = false := rfl
@[simp] theorem hostReset_haltReason : (hostReset s).haltReason = .none := rfl
@[simp] theorem hostReset_run : (hostReset s).run = .running := rfl
@[simp] theorem hostReset_ram : (hostReset s).ram = s.ram := rfl
@[simp] theorem hostReset_irqLevel : (hostReset s).irqLevel = s.irqLevel := rfl
@[simp] theorem hostReset_prg : (hostReset s).prg = s.prg := rfl
@[simp] theorem hostReset_prgSize : (hostReset s).prgSize = s.prgSize := rfl
@[simp] theorem hostReset_hook : (hostReset s).hook = s.hook := rfl
@[simp] theorem hostReset_params : (hostReset s).params = s.params := rfl
end

/-- Settles O55: the fields one by one, PC being the word of the two bytes at the reset vector. -/
theorem resetSequence : Obligations.ResetSequence := by
  intro s
  simp [word16_toNat, Params.default]

end Sys2Proof.Machine
end

section
/-! PROOFS. One bus write as a store of the statements (20_memory.md R62, R63), and the stack locations a push or a pull reaches as the
numbers the spec gives (10_state.md R31 to R34). -/

namespace Sys2Proof.Machine

/-! ## The bus write -/

theorem readByte_setRam_of_not_ram {s : State} {m : Memory} {b : Addr} (hb : 0x2000 ≤ b.toNat) :
    readByte (s.setRam m) b = readByte s b := by
  by_cases hstub : b.toNat < 0x8000
  · rw [readByte_of_stub hb hstub, readByte_of_stub hb hstub]
  · rw [readByte_of_prg (by omega), readByte_of_prg (by omega)]
    rfl

/-- A bus write stores its byte at every address of the same RAM cell and nowhere else; outside RAM it stores nothing. -/
theorem stored_writeByte (s : State) (ea : Addr) (v : Byte) : Stored ea v s (writeByte s ea v) := by
  intro b
  by_cases hea : ea.toNat < 0x2000
  · rw [writeByte_of_ram hea]
    by_cases hb : b.toNat < 0x2000
    · have halias : RamAlias ea b ↔ b.toNat % 0x800 = ea.toNat % 0x800 := by simp [RamAlias, hea, hb, eq_comm]
      rw [readByte_of_ram hb, readByte_of_ram hb, State.setRam_ram, Memory.get_set, halias]
      exact ⟨fun h => if_pos h, fun h => if_neg h⟩
    · simp [RamAlias, hb, readByte_setRam_of_not_ram (Nat.le_of_not_lt hb)]
  · simp [RamAlias, hea, writeByte_of_not_ram (Nat.le_of_not_lt hea)]

theorem readByte_writeByte_of_not_alias {s : State} {ea b : Addr} {v : Byte} (h : ¬ RamAlias ea b) :
    readByte (writeByte s ea v) b = readByte s b :=
  (stored_writeByte s ea v b).2 h

/-- A bus write changes RAM alone (R62). -/
theorem writeByte_eq_setRam (s : State) (ea : Addr) (v : Byte) : writeByte s ea v = s.setRam (writeByte s ea v).ram :=
  applyWrites_eq [(ea, v)] s

/-! ## Stack locations -/

/-- The first slot in the form of the statements' slots, which count modulo 256. -/
theorem stackAddr_eq_slot (sp : Byte) : stackAddr sp = BitVec.ofNat 16 (0x100 + sp.toNat % 256) := by
  rw [stackAddr_eq_ofNat, Nat.mod_eq_of_lt sp.isLt]

/-- The location of the `k`-th push from `sp` on, SP wrapping inside page 1 (10_state.md R31, R33). -/
theorem stackAddr_sub (sp : Byte) (k : Nat) (hk : k ≤ 256) :
    stackAddr (sp - BitVec.ofNat 8 k) = BitVec.ofNat 16 (0x100 + (sp.toNat + 256 - k) % 256) := by
  have hsp : (sp - BitVec.ofNat 8 k).toNat = (sp.toNat + 256 - k) % 256 := by
    rw [BitVec.toNat_sub, BitVec.toNat_ofNat]
    omega
  rw [stackAddr_eq_ofNat, hsp]

/-- The location of the `k`-th pull from `sp` on (R32, R33). -/
theorem stackAddr_add (sp : Byte) (k : Nat) :
    stackAddr (sp + BitVec.ofNat 8 k) = BitVec.ofNat 16 (0x100 + (sp.toNat + k) % 256) := by
  have hsp : (sp + BitVec.ofNat 8 k).toNat = (sp.toNat + k) % 256 := by
    rw [BitVec.toNat_add, BitVec.toNat_ofNat]
    omega
  rw [stackAddr_eq_ofNat, hsp]

/-- Settles O11: a push is a store at the stack location that leaves all fields but RAM and SP, a pull is a read after the increment. -/
theorem stackWrapsInPageOne : Obligations.StackWrapsInPageOne := by
  intro s v
  have hstored : Stored (stackAddr s.sp) v s (push8 s v) := stored_writeByte s (stackAddr s.sp) v
  have hframe : { push8 s v with sp := s.sp, ram := s.ram } = s := by
    rw [push8, writeByte_eq_setRam]
    rfl
  refine ⟨stackAddr_eq_ofNat s.sp ▸ hstored, ?_, hframe, ?_, ?_, rfl⟩
  · rw [push8_sp, BitVec.toNat_sub]
    simp [Nat.add_comm]
  · exact congrArg (readByte s) (stackAddr_add s.sp 1)
  · simp

end Sys2Proof.Machine
end

section
/-! PROOFS. What exec writes, said once for every constructor of Instr: only the registers, flags and addresses the statements list
for the instruction (10_state.md R22 to R26, R58, 20_memory.md R62, R75), and RAM stays canonical (R56). -/

namespace Sys2Proof.Machine

/-- From `s` to `t` no register but those of `regs` and no flag but those of `flags` changed, no byte of memory outside the
RAM cells of `addrs`, and RAM stayed canonical. -/
structure WritesOnly (regs : List Register) (flags : List Flag) (addrs : List Addr) (s t : State) : Prop where
  a : .a ∉ regs → t.a = s.a
  x : .x ∉ regs → t.x = s.x
  y : .y ∉ regs → t.y = s.y
  sp : .sp ∉ regs → t.sp = s.sp
  flag : ∀ f, f ∉ flags → t.flag f = s.flag f
  memory : ∀ b, (∀ ea ∈ addrs, ¬ RamAlias ea b) → readByte t b = readByte s b
  ramWf : s.ram.wf Config.ramBytes = true → t.ram.wf Config.ramBytes = true

section
variable {regs : List Register} {flags : List Flag} {addrs : List Addr} {s t u : State}

theorem WritesOnly.trans (hst : WritesOnly regs flags addrs s t) (htu : WritesOnly regs flags addrs t u) :
    WritesOnly regs flags addrs s u where
  a h := (htu.a h).trans (hst.a h)
  x h := (htu.x h).trans (hst.x h)
  y h := (htu.y h).trans (hst.y h)
  sp h := (htu.sp h).trans (hst.sp h)
  flag f h := (htu.flag f h).trans (hst.flag f h)
  memory b h := (htu.memory b h).trans (hst.memory b h)
  ramWf h := htu.ramWf (hst.ramWf h)

/-! ## The operations that store -/

theorem writeByte_writesOnly {ea : Addr} {v : Byte} (hea : ea ∈ addrs) :
    WritesOnly regs flags addrs s (writeByte s ea v) := by
  constructor
  case memory => exact fun b hb => readByte_writeByte_of_not_alias (hb ea hea)
  case ramWf => exact writeByte_ram_wf
  all_goals simp

theorem push8_writesOnly {v : Byte} (hsp : .sp ∈ regs) (hslot : stackAddr s.sp ∈ addrs) :
    WritesOnly regs flags addrs s (push8 s v) := by
  have hdec : WritesOnly regs flags addrs (writeByte s (stackAddr s.sp) v) (push8 s v) := by
    unfold push8
    constructor <;> simp [hsp]
  exact (writeByte_writesOnly hslot).trans hdec

theorem push16_writesOnly {w : Addr} (hsp : .sp ∈ regs) (hslot : stackAddr s.sp ∈ addrs)
    (hslot' : stackAddr (s.sp - 1) ∈ addrs) : WritesOnly regs flags addrs s (push16 s w) := by
  have hlow : WritesOnly regs flags addrs (push8 s (hi8 w)) (push16 s w) :=
    push8_writesOnly hsp (by rwa [push8_sp])
  exact (push8_writesOnly hsp hslot).trans hlow

theorem takeException_writesOnly {ret vector : Addr} {brk : Bool} (hsp : .sp ∈ regs) (hi : .i ∈ flags)
    (hslots : ∀ k < 3, stackAddr (s.sp - BitVec.ofNat 8 k) ∈ addrs) :
    WritesOnly regs flags addrs s (takeException ret brk vector s) := by
  have hpc : WritesOnly regs flags addrs s (push16 s ret) :=
    push16_writesOnly hsp (by simpa using hslots 0 (by decide)) (hslots 1 (by decide))
  have hp : WritesOnly regs flags addrs (push16 s ret) (push8 (push16 s ret) (pushImage s.p brk)) :=
    push8_writesOnly hsp (by simpa [BitVec.sub_sub] using hslots 2 (by decide))
  have hvector : WritesOnly regs flags addrs (push8 (push16 s ret) (pushImage s.p brk)) (takeException ret brk vector s) := by
    rw [takeException_eq]
    constructor
    case flag => exact fun f hf => by simp [(ne_of_mem_of_not_mem hi hf).symm]
    all_goals simp
  exact (hpc.trans hp).trans hvector

/-! ## The shared operations around an instruction -/

theorem raiseIllegalOpcode_writesOnly {op : Byte} : WritesOnly regs flags addrs s (raiseIllegalOpcode op s) := by
  constructor <;> simp
end

/-- Only these registers, flags and bytes are written, whatever next state `r` answers. -/
def NextWritesOnly (regs : List Register) (flags : List Flag) (addrs : List Addr) (s : State) (r : Result) : Prop :=
  ∀ t, r = .next t → WritesOnly regs flags addrs s t

section
variable {regs : List Register} {flags : List Flag} {addrs : List Addr} {i : Instr} {s : State}

theorem next_raiseIllegalOpcode_writesOnly {op : Byte} :
    NextWritesOnly regs flags addrs s (.next (raiseIllegalOpcode op s)) := by
  rintro t ⟨⟩
  exact raiseIllegalOpcode_writesOnly

theorem perform_writesOnly {cr : Bool} {effect : State → State} (h : WritesOnly regs flags addrs s (effect s)) :
    NextWritesOnly regs flags addrs s (perform i cr effect s) := by
  intro t ht
  obtain ⟨-, rfl⟩ | ⟨-, rfl⟩ := perform_next ht
  · exact h.trans (by constructor <;> simp)
  · exact raiseIllegalOpcode_writesOnly

theorem performJump_writesOnly {extra : Nat} {effect : State → State} (h : WritesOnly regs flags addrs s (effect s)) :
    NextWritesOnly regs flags addrs s (performJump i extra effect s) := by
  intro t ht
  obtain ⟨-, rfl⟩ | ⟨-, rfl⟩ := performJump_next ht
  · exact h.trans (by constructor <;> simp)
  · exact raiseIllegalOpcode_writesOnly

theorem performRead_writesOnly {o : ReadOperand} {effect : Byte → State → State}
    (h : ∀ m, WritesOnly regs flags addrs s (effect m s)) : NextWritesOnly regs flags addrs s (performRead i o effect s) :=
  perform_writesOnly (h _)

theorem performStore_writesOnly {m : MemMode} {value : State → Byte} (hea : effAddr m s ∈ addrs) :
    NextWritesOnly regs flags addrs s (performStore i m value s) :=
  perform_writesOnly (writeByte_writesOnly hea)

theorem performModify_writesOnly {m : MemMode} {result : Byte → State → Byte} {after : Byte → Byte → State → State}
    (hea : effAddr m s ∈ addrs) (h : ∀ v r u, WritesOnly regs flags addrs u (after v r u)) :
    NextWritesOnly regs flags addrs s (performModify i m result after s) := by
  unfold performModify
  exact perform_writesOnly ((writeByte_writesOnly hea).trans (h ..))

theorem performBranch_writesOnly {cond : Bool} {r : Byte} : NextWritesOnly regs flags addrs s (performBranch i cond r s) := by
  unfold performBranch
  split
  · exact performJump_writesOnly (by constructor <;> simp)
  · exact perform_writesOnly (by constructor <;> simp)

/-- A shift or rotate writes A in its accumulator form and its cell in the others. -/
theorem performShift_writesOnly {o : ShiftOperand} {f : Byte → Bool → ShiftResult} :
    NextWritesOnly (if o = .acc then [.a] else []) [.n, .z, .c] (o.toMem.map (effAddr · s)).toList s
      (performShift i o f s) := by
  unfold performShift
  cases o with
  | acc => exact perform_writesOnly (by constructor <;> simp +contextual)
  | zp | zpX | abs | absX =>
    exact performModify_writesOnly (by simp [ShiftOperand.toMem]) fun _ _ _ => by constructor <;> simp +contextual
end

/-! ## Every instruction -/

theorem flag_mem_flagsWritten_plp (policy : BrkPolicy) (f : Flag) : f ∈ flagsWritten policy .plp := by
  cases f <;> simp [flagsWritten]

theorem execBrk_writesOnly (s : State) :
    NextWritesOnly (registersWritten s.params.brkPolicy .brk) (flagsWritten s.params.brkPolicy .brk) (storedAddrs .brk s) s
      (execBrk s) := by
  unfold execBrk
  split
  · exact perform_writesOnly (by constructor <;> simp)
  · next hpolicy =>
    refine performJump_writesOnly (takeException_writesOnly (by simp [registersWritten, hpolicy])
      (by simp [flagsWritten, hpolicy])
      fun k hk => ?_)
    rw [stackAddr_sub s.sp k (by omega)]
    interval_cases k <;> simp [storedAddrs, hpolicy]

theorem execNopUnofficial_writesOnly (op : Byte) (o : NopOperand) (s : State) :
    NextWritesOnly [] [] [] s (execNopUnofficial op o s) := by
  unfold execNopUnofficial
  split
  · exact perform_writesOnly (by constructor <;> simp)
  · exact performRead_writesOnly (fun _ => by constructor <;> simp)

theorem exec_writesOnly (i : Instr) (s : State) :
    NextWritesOnly (registersWritten s.params.brkPolicy i) (flagsWritten s.params.brkPolicy i) (storedAddrs i s) s
      (exec i s) := by
  unfold exec
  cases i with
  | tax | tay | txa | tya | tsx | txs | inx | iny | dex | dey | pla
  | clc | sec | cli | sei | cld | sed | clv | nop =>
    exact perform_writesOnly (by constructor <;> simp +contextual [registersWritten, flagsWritten])
  | plp =>
    refine perform_writesOnly ?_
    constructor
    case flag => exact fun f hf => absurd (flag_mem_flagsWritten_plp _ f) hf
    all_goals simp [registersWritten]
  | rti =>
    refine performJump_writesOnly ?_
    constructor
    case flag => exact fun f hf => absurd (flag_mem_flagsWritten_plp s.params.brkPolicy f) hf
    all_goals simp [registersWritten]
  | pha | php =>
    exact perform_writesOnly (push8_writesOnly (by simp [registersWritten])
      (by simp [storedAddrs, stackAddr_eq_slot]))
  | lda | ldx | ldy | adc | sbc | cmp | cpx | cpy | and | ora | eor | bit
  | lax | sbcUnofficial | anc | alr | arr | sbx =>
    exact performRead_writesOnly (by intro m; constructor <;> simp +contextual [registersWritten, flagsWritten])
  | sta | stx | sty | sax => exact performStore_writesOnly (by simp [storedAddrs])
  | inc | dec | slo | rla | sre | rra | dcp | isb =>
    exact performModify_writesOnly (by simp [storedAddrs])
      (by intro v r u; constructor <;> simp +contextual [registersWritten, flagsWritten])
  | asl | lsr | rol | ror => exact performShift_writesOnly
  | jmp | rts =>
    exact performJump_writesOnly (by constructor <;> simp +contextual [registersWritten, flagsWritten])
  | jsr w =>
    have hpush : WritesOnly [.sp] [] (storedAddrs (.jsr w) s) s (push16 s (s.pc + 2)) :=
      push16_writesOnly (by simp) (by simp [storedAddrs, stackAddr_eq_slot])
        (by simp [storedAddrs, stackAddr_sub s.sp 1 (by decide)])
    exact performJump_writesOnly (hpush.trans (by constructor <;> simp))
  | bpl | bmi | bvc | bvs | bcc | bcs | bne | beq => exact performBranch_writesOnly
  | brk => exact execBrk_writesOnly s
  | nopUnofficial op o => exact execNopUnofficial_writesOnly op o s
  | jam | sha | ane | lxa | shx | shy | tas | las => exact next_raiseIllegalOpcode_writesOnly

end Sys2Proof.Machine
end

section
/-! PROOFS. The P that is pushed and the P that a pull loads, flag by flag (10_state.md R45). -/

namespace Sys2Proof.Machine

/-- Bit by bit the masks keep six flags, clear B and set bit 5. -/
theorem getFlag_loadP (v : Byte) (f : Flag) :
    getFlag (loadP v) f = (match f with | .u => true | .b => false | g => getFlag v g) := by
  cases f <;> simp [getFlag, loadP, Flag.bit]

theorem getFlag_pushImage (p : Byte) (brk : Bool) (f : Flag) :
    getFlag (pushImage p brk) f = (match f with | .u => true | .b => brk | g => getFlag p g) := by
  cases brk <;> cases f <;> simp [getFlag, pushImage, Flag.bit]

/-- Settles O12: the two masks, flag by flag. -/
theorem pushImageAndLoadP : Obligations.PushImageAndLoadP :=
  fun p brk f => ⟨getFlag_pushImage p brk f, getFlag_loadP p f⟩

end Sys2Proof.Machine
end

section
/-! PROOFS. The instructions that pull: PLP, RTS and RTI (41_stack.md R146, 44_control_flow.md R173, R174). -/

namespace Sys2Proof.Machine

theorem exec_plp (s : State) :
    exec .plp s = .next ((((pull8 s).setP (loadP (pulled8 s))).setPc (s.pc + 1)).addCycles 4) := rfl

theorem exec_rts (s : State) : exec .rts s = .next (((pull16 s).setPc (pulled16 s + 1)).addCycles 6) := rfl

theorem exec_rti (s : State) : exec .rti s = .next ((returnFromException s).addCycles 6) := rfl

@[simp] theorem returnFromException_pc (s : State) : (returnFromException s).pc = pulled16 (pull8 s) := rfl

/-- The pulled word is made of the bytes at the next two stack locations, low byte first (20_memory.md R69, R72). -/
theorem pulled16_toNat (s : State) :
    (pulled16 s).toNat =
      256 * (readByte s (stackAddr (s.sp + 2))).toNat + (readByte s (stackAddr (s.sp + 1))).toNat := by
  simp [pulled16, pulled8, word16_toNat, BitVec.add_assoc]

/-- Settles O28: both complete at every state; the slots of the pulls are the stack locations above SP. -/
theorem returnInstructions : Obligations.ReturnInstructions := by
  intro s
  simp only [← stackAddr_add]
  refine ⟨⟨_, exec_rts s, ?_⟩, ⟨_, exec_rti s, ?_⟩⟩
  · simp [pulled16_toNat, SameMemory, SameSurroundings, BitVec.add_assoc]
  · have hflags : FlagsAfter s ((returnFromException s).addCycles 6) ([(.b, false), (.u, true)] ++
        ([.c, .z, .i, .d, .v, .n] : List Flag).map (fun f => (f, getFlag (pulled8 s) f))) := by
      intro f
      cases f <;> simp [State.flag, getFlag_loadP]
    refine ⟨?_, ?_, rfl, hflags, ?_⟩
    all_goals simp [pulled16_toNat, SameMemory, SameSurroundings, BitVec.add_assoc]

end Sys2Proof.Machine
end

section
/-! PROOFS. The whole-machine rules about one instruction, read off what exec writes and what it keeps. -/

namespace Sys2Proof.Machine

/-- Settles O46: the registers outside the writer lists of R22 to R26. -/
theorem onlyListedInstructionsWriteRegisters : Obligations.OnlyListedInstructionsWriteRegisters := by
  intro i s t h
  have hw := exec_writesOnly i s t h
  exact ⟨hw.a, hw.x, hw.y, hw.sp⟩

/-- Settles O47: the flags outside the row of R58. -/
theorem unlistedFlagsUntouched : Obligations.UnlistedFlagsUntouched :=
  fun i s t h => (exec_writesOnly i s t h).flag

/-- Settles O48: the bytes outside the RAM cells of the stored addresses. -/
theorem onlyStoredBytesChange : Obligations.OnlyStoredBytesChange :=
  fun i s t h => (exec_writesOnly i s t h).memory

/-- Settles O49: a well-formed admitted instruction cannot have raised IllegalOpcode, so it ran within its surroundings. -/
theorem instructionsKeepSurroundings : Obligations.InstructionsKeepSurroundings := by
  intro i s t hadmitted hwf h
  obtain ⟨-, hsame⟩ | ⟨hraise, -⟩ := exec_next h
  · exact hsame
  · simp [hraise hwf] at hadmitted

/-- Settles O52: exec answers a next state for every instruction, so a step can only be missing where RUN is not Running. -/
theorem stepsExactlyWhileRunning : Obligations.StepsExactlyWhileRunning := by
  intro s
  constructor
  · intro hrun
    obtain ⟨s1, hexec, -⟩ := exec_runsOrRaises (fetched (interruptCheck s)) (interruptCheck s)
    exact ⟨_, step_of_exec hrun hexec⟩
  · intro hrun
    simp [step, hrun]

end Sys2Proof.Machine
end

section
/-! PROOFS. The invariant of a core that has been reset, established by reset and kept by each part of a step (10_state.md R40, R44,
R46, R50, R55, R56). -/

namespace Sys2Proof.Machine

/-! ## Reset -/

/-- Settles O57: reset writes P, RUN and HALT_REASON and leaves both memories. -/
theorem resetEstablishesInvariant : Obligations.ResetEstablishesInvariant := by
  intro s hram hprg
  exact
    { ramWf := hram
      prgWf := hprg
      bit5Set := (by decide : getFlag 0x24 .u = true)
      breakClear := (by decide : getFlag 0x24 .b = false)
      runLegal := .inl ⟨rfl, rfl⟩ }

/-- Settles O56: the reset state is the reset of a constructed core whose memories list nothing. -/
theorem resetStateMeetsInvariant : Obligations.ResetStateMeetsInvariant := by
  unfold Obligations.ResetStateMeetsInvariant
  rw [State.reset_eq_hostReset]
  exact resetEstablishesInvariant _ rfl rfl

/-! ## The parts of a step -/

theorem State.Inv.haltReason_of_running {s : State} (h : s.Inv) (hrun : s.run = .running) : s.haltReason = .none := by
  obtain ⟨-, hnone⟩ | ⟨hhalted, -⟩ := h.runLegal
  · exact hnone
  · simp [hrun] at hhalted

/-- Halting keeps the invariant when a reason is given (R49, R50). -/
theorem halt_inv {s : State} (h : s.Inv) {reason : HaltReason} (hreason : reason ≠ .none) : (halt reason s).Inv where
  ramWf := h.ramWf
  prgWf := h.prgWf
  bit5Set := h.bit5Set
  breakClear := h.breakClear
  runLegal := .inr ⟨rfl, hreason⟩

theorem enterInterrupt_inv {s : State} (h : s.Inv) (hnone : s.haltReason = .none) (vector : Addr) :
    (enterInterrupt vector s).Inv where
  ramWf := enterInterrupt_ram_wf vector h.ramWf
  prgWf := by simpa using h.prgWf
  bit5Set := by simpa using h.bit5Set
  breakClear := by simpa using h.breakClear
  runLegal := .inl (by simpa using hnone)

theorem interruptCheck_inv {s : State} (h : s.Inv) (hrun : s.run = .running) : (interruptCheck s).Inv := by
  have hnone := h.haltReason_of_running hrun
  obtain ⟨-, heq⟩ | ⟨-, -, -, heq⟩ | ⟨-, -, heq⟩ := interruptCheck_cases s <;> rw [heq]
  · have hcleared : (s.setNmiPending false).Inv := ⟨h.ramWf, h.prgWf, h.bit5Set, h.breakClear, h.runLegal⟩
    exact enterInterrupt_inv hcleared hnone _
  · exact enterInterrupt_inv h hnone _
  · exact h

/-- Only PLP and RTI write the reserved bits of P at all (R58). -/
theorem fixedBit_mem_flagsWritten {policy : BrkPolicy} {i : Instr} {f : Flag} (hf : f = .u ∨ f = .b)
    (h : f ∈ flagsWritten policy i) : i = .plp ∨ i = .rti := by
  obtain rfl | rfl := hf
  all_goals cases i with
    | plp => exact .inl rfl
    | rti => exact .inr rfl
    | brk => cases policy <;> simp [flagsWritten] at h
    | _ => simp [flagsWritten] at h

/-- PLP and RTI load P through LoadP (R45). -/
theorem exec_plp_or_rti_p {i : Instr} (hi : i = .plp ∨ i = .rti) {s t : State} (h : exec i s = .next t) :
    t.p = loadP (pulled8 s) := by
  obtain rfl | rfl := hi
  · obtain rfl := Host.Outcome.next.inj (h.symm.trans (exec_plp s))
    rfl
  · obtain rfl := Host.Outcome.next.inj (h.symm.trans (exec_rti s))
    rfl

theorem exec_keeps_fixedBits {i : Instr} {s t : State} (hu : s.flag .u = true) (hb : s.flag .b = false)
    (h : exec i s = .next t) : t.flag .u = true ∧ t.flag .b = false := by
  by_cases hi : i = .plp ∨ i = .rti
  · simp [State.flag, exec_plp_or_rti_p hi h, getFlag_loadP]
  · have hkeep := (exec_writesOnly i s t h).flag
    rw [hkeep .u (mt (fixedBit_mem_flagsWritten (.inl rfl)) hi), hkeep .b (mt (fixedBit_mem_flagsWritten (.inr rfl)) hi)]
    exact ⟨hu, hb⟩

/-- An instruction keeps RUN and HALT_REASON or raises IllegalOpcode, which halts with a reason. -/
theorem exec_inv {i : Instr} {s t : State} (h : s.Inv) (hexec : exec i s = .next t) : t.Inv := by
  obtain ⟨-, hrun, hhalt, -, -, hprg, hsize, -, -⟩ | ⟨-, rfl⟩ := exec_next hexec
  · obtain ⟨hu, hb⟩ := exec_keeps_fixedBits h.bit5Set h.breakClear hexec
    exact
      { ramWf := (exec_writesOnly i s t hexec).ramWf h.ramWf
        prgWf := by rw [hprg, hsize]; exact h.prgWf
        bit5Set := hu
        breakClear := hb
        runLegal := by rw [hrun, hhalt]; exact h.runLegal }
  · exact halt_inv h nofun

theorem runHook_inv {s : State} (h : s.Inv) : (runHook s).Inv where
  ramWf := runHook_ram_wf h.ramWf
  prgWf := by simpa using h.prgWf
  bit5Set := by rw [State.flag_congr (runHook_p s)]; exact h.bit5Set
  breakClear := by rw [State.flag_congr (runHook_p s)]; exact h.breakClear
  runLegal := by simpa using h.runLegal

theorem afterExec_inv {s1 : State} (h : s1.Inv) (i : Instr) (s0 : State) : (afterExec i s0 s1).Inv := by
  unfold afterExec haltCheck
  split
  · split
    · exact halt_inv (runHook_inv h) nofun
    · exact runHook_inv h
  · exact h

/-- Settles O58: the interrupt check, exec, and the hook with the halt check each keep the invariant. -/
theorem stepKeepsInvariant : Obligations.StepKeepsInvariant := by
  intro s t h hstep
  obtain ⟨hrun, s1, hexec, rfl⟩ := step_next hstep
  exact afterExec_inv (exec_inv (interruptCheck_inv h hrun) hexec) _ _

end Sys2Proof.Machine
end

section
/-! PROOFS. BRK under Halt, and the step as exec of the decoded bytes (10_state.md R47, 44_control_flow.md R185). -/

namespace Sys2Proof.Machine

/-- The three bytes at PC always hold an instruction, and it is the one the step fetches (30_encoding.md R92, R93). -/
theorem fetched_of_decode {s : State} {i : Instr} {rest : List Byte}
    (h : decode [readByte s s.pc, readByte s (s.pc + 1), readByte s (s.pc + 2)] = .ok (i, rest)) : fetched s = i := by
  simp only [decode] at h
  split at h
  · cases h
  · injection h with hpair
    exact congrArg Prod.fst hpair

theorem admitted_iff {s : State} {op : Byte} :
    admitted s op = true ↔
      (entry op).tier = .official ∨ (entry op).tier = .unofficial ∧ s.params.admitUnofficial = true := by
  unfold admitted
  split <;> simp_all

/-- The halt check after the hook, which keeps the parameters. -/
theorem haltCheck_runHook (op : Byte) (pc0 : Addr) (s : State) :
    haltCheck op pc0 (runHook s) =
      if op = 0x00 ∧ s.params.brkPolicy = .halt then halt (.brk pc0) (runHook s) else runHook s := by
  rw [haltCheck, runHook_params]

/-- Settles O51: the fetched instruction is the decoded one, and what follows exec is the hook with the halt check exactly where the
opcode is admitted. -/
theorem stepRunsDecodedInstruction : Obligations.StepRunsDecodedInstruction := by
  intro s i rest hrun s0 hdecode
  obtain ⟨s1, hexec, -⟩ := exec_runsOrRaises i s0
  have hfetched : fetched s0 = i := fetched_of_decode hdecode
  have hparams : s0.params = s.params := (interruptCheck_sameLaunch s).2.2.1
  have hstep : step s = .next (afterExec i s0 s1) := by
    rw [step_of_exec hrun (by rwa [hfetched]), hfetched]
  rw [hstep, hexec]
  simp only [afterExec, haltCheck_runHook, admitted_iff, hparams]
  split
  · split <;> rfl
  · rfl

/-! ## The hook after another instruction -/

theorem writeByte_ram_congr {s t : State} (hram : t.ram = s.ram) (hsize : t.prgSize = s.prgSize) (ea : Addr) (v : Byte) :
    (writeByte t ea v).ram = (writeByte s ea v).ram := by
  unfold writeByte
  rw [hsize]
  split <;> simp [hram]

theorem applyWrites_ram_congr {s t : State} (hram : t.ram = s.ram) (hsize : t.prgSize = s.prgSize) (ws : List HostWrite) :
    (applyWrites ws t).ram = (applyWrites ws s).ram := by
  induction ws generalizing s t with
  | nil => exact hram
  | cons w ws ih => exact ih (writeByte_ram_congr hram hsize ..) (by simpa using hsize)

/-- What the hook writes depends on RAM, the image's size and the coming writes alone. -/
theorem runHook_ram_congr {s t : State} (hram : t.ram = s.ram) (hsize : t.prgSize = s.prgSize) (hhook : t.hook = s.hook) :
    (runHook t).ram = (runHook s).ram := by
  unfold runHook
  rw [hhook]
  split
  · exact hram
  · exact applyWrites_ram_congr (by simpa using hram) (by simpa using hsize) _

/-! ## BRK -/

/-- BRK under Halt has no effect of its own (R185). -/
theorem exec_brk_of_halt {s : State} (h : s.params.brkPolicy = .halt) :
    exec .brk s = .next ((s.setPc (s.pc + 1)).addCycles 7) := by
  simp only [exec, execBrk, h]
  rfl

theorem fetched_of_zero {s : State} (h : readByte s s.pc = 0x00) : fetched s = .brk := by
  rw [fetched, h]
  rfl

/-- The hook and the halt check after BRK under Halt. -/
theorem afterExec_brk_of_halt {s0 s1 : State} (h : s1.params.brkPolicy = .halt) :
    afterExec .brk s0 s1 = halt (.brk s0.pc) (runHook s1) := by
  have hofficial : admitted s0 Instr.brk.opcode = true := admitted_of_official rfl
  rw [afterExec, if_pos hofficial, haltCheck_runHook, if_pos ⟨rfl, h⟩]

/-- Settles O32: alone, and in a step with the hook and the halt after it. -/
theorem breakHaltStopsRun : Obligations.BreakHaltStopsRun := by
  intro s hpolicy
  refine ⟨⟨_, exec_brk_of_halt hpolicy, by simp [SameRegisters, SameMemory, SameSurroundings]⟩, ?_⟩
  intro hrun hcheck hzero
  have hfetched : fetched s = .brk := fetched_of_zero hzero
  have hstep : step s = .next (halt (.brk s.pc) (runHook ((s.setPc (s.pc + 1)).addCycles 7))) := by
    rw [step_of_exec hrun (by rw [hcheck, hfetched]; exact exec_brk_of_halt hpolicy), hcheck, hfetched,
      afterExec_brk_of_halt (by simpa using hpolicy)]
  have hmemory : SameMemory (runHook s) (halt (.brk s.pc) (runHook ((s.setPc (s.pc + 1)).addCycles 7))) :=
    readByte_congr (runHook_ram_congr rfl rfl rfl) (by simp) (by simp)
  exact ⟨_, hstep, rfl, rfl, by simp, by simp, by simp [SameRegisters], by simp, hmemory⟩

end Sys2Proof.Machine
end

section
/-! PROOFS. The D flag is inert (10_state.md R39, 42_arith_logic.md R148): writing D commutes with every effect that neither reads it
nor writes the whole of P. -/

namespace Sys2Proof.Machine

/-! ## Writing D commutes with the other writes of P -/

/-- P is its eight flags. -/
theorem eq_of_getFlag_eq {p q : Byte} (h : ∀ f, getFlag p f = getFlag q f) : p = q := by
  refine BitVec.eq_of_getLsbD_eq fun k hk => ?_
  interval_cases k
  exacts [h .c, h .z, h .i, h .d, h .b, h .u, h .v, h .n]

theorem setFlag_comm {f g : Flag} (h : f ≠ g) (p : Byte) (on on' : Bool) :
    setFlag (setFlag p f on) g on' = setFlag (setFlag p g on') f on :=
  eq_of_getFlag_eq fun k => by
    by_cases hk : k = f
    · simp [hk, h]
    · simp [hk]

theorem setNZ_setFlag_d (p v : Byte) (d : Bool) : setNZ (setFlag p .d d) v = setFlag (setNZ p v) .d d := by
  simp [setNZ, setFlag_comm (f := .d) (g := .z), setFlag_comm (f := .d) (g := .n)]

theorem comparedP_setFlag_d (p r m : Byte) (d : Bool) :
    comparedP (setFlag p .d d) r m = setFlag (comparedP p r m) .d d := by
  simp [comparedP, setFlag_comm (f := .d) (g := .c), setNZ_setFlag_d]

section
variable (s : State) (d : Bool)

@[simp] theorem State.setFlag_setFlag_d {f : Flag} (h : .d ≠ f) (on : Bool) :
    (s.setFlag .d d).setFlag f on = (s.setFlag f on).setFlag .d d :=
  congrArg s.setP (setFlag_comm h s.p d on)

@[simp] theorem State.setNZ_setFlag_d (v : Byte) : (s.setFlag .d d).setNZ v = (s.setNZ v).setFlag .d d :=
  congrArg s.setP (Machine.setNZ_setFlag_d s.p v d)

@[simp] theorem compareFlags_setFlag_d (r m : Byte) :
    compareFlags r m (s.setFlag .d d) = (compareFlags r m s).setFlag .d d :=
  congrArg s.setP (comparedP_setFlag_d s.p r m d)

/-! ## Writing D commutes with the updates of other fields -/

@[simp] theorem setA_setFlag_d (v : Byte) : (s.setFlag .d d).setA v = (s.setA v).setFlag .d d := rfl
@[simp] theorem setX_setFlag_d (v : Byte) : (s.setFlag .d d).setX v = (s.setX v).setFlag .d d := rfl
@[simp] theorem setY_setFlag_d (v : Byte) : (s.setFlag .d d).setY v = (s.setY v).setFlag .d d := rfl
@[simp] theorem setSp_setFlag_d (v : Byte) : (s.setFlag .d d).setSp v = (s.setSp v).setFlag .d d := rfl
@[simp] theorem setPc_setFlag_d (v : Addr) : (s.setFlag .d d).setPc v = (s.setPc v).setFlag .d d := rfl
@[simp] theorem addCycles_setFlag_d (n : Nat) : (s.setFlag .d d).addCycles n = (s.addCycles n).setFlag .d d := rfl
@[simp] theorem raiseIllegalOpcode_setFlag_d (op : Byte) :
    raiseIllegalOpcode op (s.setFlag .d d) = (raiseIllegalOpcode op s).setFlag .d d := rfl
@[simp] theorem pull8_setFlag_d : pull8 (s.setFlag .d d) = (pull8 s).setFlag .d d := rfl
@[simp] theorem pull16_setFlag_d : pull16 (s.setFlag .d d) = (pull16 s).setFlag .d d := rfl

@[simp] theorem writeByte_setFlag_d (ea : Addr) (v : Byte) :
    writeByte (s.setFlag .d d) ea v = (writeByte s ea v).setFlag .d d := by
  unfold writeByte
  rw [State.setFlag_prgSize]
  split <;> rfl

@[simp] theorem push8_setFlag_d (v : Byte) : push8 (s.setFlag .d d) v = (push8 s v).setFlag .d d := by
  simp [push8]

@[simp] theorem push16_setFlag_d (w : Addr) : push16 (s.setFlag .d d) w = (push16 s w).setFlag .d d := by
  simp [push16]

@[simp] theorem setAResult_setFlag_d (v : Byte) : setAResult v (s.setFlag .d d) = (setAResult v s).setFlag .d d := by
  simp [setAResult]

/-- The adder is binary whatever D is (42_arith_logic.md R148). -/
@[simp] theorem addToA_setFlag_d (m : Byte) : addToA m (s.setFlag .d d) = (addToA m s).setFlag .d d := by
  simp [addToA]

/-! ## What the operands and targets read does not depend on D -/

@[simp] theorem pulled8_setFlag_d : pulled8 (s.setFlag .d d) = pulled8 s := rfl
@[simp] theorem pulled16_setFlag_d : pulled16 (s.setFlag .d d) = pulled16 s := rfl
@[simp] theorem branchTarget_setFlag_d (r : Byte) : branchTarget r (s.setFlag .d d) = branchTarget r s := rfl
@[simp] theorem branchExtra_setFlag_d (target : Addr) : branchExtra target (s.setFlag .d d) = branchExtra target s := rfl
@[simp] theorem nextPc_setFlag_d (op : Byte) : nextPc op (s.setFlag .d d) = nextPc op s := rfl
@[simp] theorem admitted_setFlag_d (op : Byte) : admitted (s.setFlag .d d) op = admitted s op := rfl
@[simp] theorem effAddr_setFlag_d (m : MemMode) : effAddr m (s.setFlag .d d) = effAddr m s :=
  effAddr_congr rfl rfl (fun _ => rfl) m
@[simp] theorem crossed_setFlag_d (m : MemMode) : crossed m (s.setFlag .d d) = crossed m s :=
  crossed_congr rfl rfl (fun _ => rfl) m
@[simp] theorem operandValue_setFlag_d (o : ReadOperand) : operandValue o (s.setFlag .d d) = operandValue o s :=
  operandValue_congr rfl rfl (fun _ => rfl) o
@[simp] theorem operandCrossed_setFlag_d (o : ReadOperand) : operandCrossed o (s.setFlag .d d) = operandCrossed o s :=
  operandCrossed_congr rfl rfl (fun _ => rfl) o
@[simp] theorem jmpTarget_setFlag_d (o : JmpOperand) : o.target (s.setFlag .d d) = o.target s := by
  cases o <;> rfl
end

/-! ## The shared operations around an instruction -/

/-- The outcome with D written in the next state it answers. -/
def withD (d : Bool) : Result → Result
  | .next t => .next (t.setFlag .d d)
  | .fault r => .fault r
  | .refused r => .refused r

section
variable {i : Instr} {s : State} {d : Bool}

theorem perform_setFlag_d {cr : Bool} {effect : State → State} (h : effect (s.setFlag .d d) = (effect s).setFlag .d d) :
    perform i cr effect (s.setFlag .d d) = withD d (perform i cr effect s) := by
  cases ha : admitted s i.opcode <;> simp [perform, ha, h, withD]

theorem performJump_setFlag_d {extra : Nat} {effect : State → State}
    (h : effect (s.setFlag .d d) = (effect s).setFlag .d d) :
    performJump i extra effect (s.setFlag .d d) = withD d (performJump i extra effect s) := by
  cases ha : admitted s i.opcode <;> simp [performJump, ha, h, withD]

theorem performRead_setFlag_d {o : ReadOperand} {effect : Byte → State → State}
    (h : ∀ m, effect m (s.setFlag .d d) = (effect m s).setFlag .d d) :
    performRead i o effect (s.setFlag .d d) = withD d (performRead i o effect s) := by
  simp only [performRead, operandValue_setFlag_d, operandCrossed_setFlag_d]
  exact perform_setFlag_d (h _)

theorem performStore_setFlag_d {m : MemMode} {value : State → Byte} (h : value (s.setFlag .d d) = value s) :
    performStore i m value (s.setFlag .d d) = withD d (performStore i m value s) := by
  simp only [performStore, crossed_setFlag_d]
  exact perform_setFlag_d (by simp [h])

theorem performModify_setFlag_d {m : MemMode} {result : Byte → State → Byte} {after : Byte → Byte → State → State}
    (hresult : ∀ v, result v (s.setFlag .d d) = result v s)
    (hafter : ∀ v r u, after v r (u.setFlag .d d) = (after v r u).setFlag .d d) :
    performModify i m result after (s.setFlag .d d) = withD d (performModify i m result after s) := by
  simp only [performModify, effAddr_setFlag_d, crossed_setFlag_d, readByte_setFlag, hresult]
  exact perform_setFlag_d (by simp [hafter])

theorem performBranch_setFlag_d {cond cond' : Bool} {r : Byte} (h : cond' = cond) :
    performBranch i cond' r (s.setFlag .d d) = withD d (performBranch i cond r s) := by
  simp only [performBranch, h, branchTarget_setFlag_d, branchExtra_setFlag_d]
  split
  · exact performJump_setFlag_d rfl
  · exact perform_setFlag_d rfl

theorem performShift_setFlag_d {o : ShiftOperand} {f : Byte → Bool → ShiftResult} :
    performShift i o f (s.setFlag .d d) = withD d (performShift i o f s) := by
  unfold performShift
  cases o with
  | acc => exact perform_setFlag_d (by simp)
  | zp | zpX | abs | absX => exact performModify_setFlag_d (by simp) (by simp)

theorem execNopUnofficial_setFlag_d (op : Byte) (o : NopOperand) :
    execNopUnofficial op o (s.setFlag .d d) = withD d (execNopUnofficial op o s) := by
  unfold execNopUnofficial
  split
  · exact perform_setFlag_d rfl
  · exact performRead_setFlag_d fun _ => rfl
end

/-- Every instruction that neither pushes P nor writes D: setting D before it is setting D after it. -/
theorem exec_setFlag_d {i : Instr} (hi : i ∉ ([.php, .plp, .rti, .brk, .cld, .sed] : List Instr)) (s : State) (d : Bool) :
    exec i (s.setFlag .d d) = withD d (exec i s) := by
  unfold exec
  cases i with
  | php | plp | rti | brk | cld | sed => simp at hi
  | tax | tay | txa | tya | tsx | txs | inx | iny | dex | dey | pha | pla
  | clc | sec | cli | sei | clv | nop => exact perform_setFlag_d (by simp)
  | lda | ldx | ldy | adc | sbc | cmp | cpx | cpy | and | ora | eor | bit
  | lax | sbcUnofficial | anc | alr | arr | sbx => exact performRead_setFlag_d (by simp)
  | sta | stx | sty | sax => exact performStore_setFlag_d rfl
  | inc | dec | slo | rla | sre | rra | dcp | isb => exact performModify_setFlag_d (by simp) (by simp)
  | asl | lsr | rol | ror => exact performShift_setFlag_d
  | jmp | jsr | rts => exact performJump_setFlag_d (by simp)
  | bpl | bmi | bvc | bvs | bcc | bcs | bne | beq => exact performBranch_setFlag_d (by simp)
  | nopUnofficial op o => exact execNopUnofficial_setFlag_d op o
  | jam | sha | ane | lxa | shx | shy | tas | las => rfl

/-- Settles O50: writing D commutes with exec. -/
theorem decimalFlagIsInert : Obligations.DecimalFlagIsInert := by
  intro i s t d hi h
  rw [exec_setFlag_d hi, h]
  rfl

end Sys2Proof.Machine
end

section
/-! PROOFS. The bus region by region: RAM with its mirrors (20_memory.md R62, R63), the dropped writes and the stub reads (R64, R65,
R67), the image window (R66), and the word read (R68). -/

namespace Sys2Proof.Machine

/-! ## RAM and its mirrors -/

theorem readByte_writeByte_of_alias {s : State} {ea b : Addr} {v : Byte} (h : RamAlias ea b) :
    readByte (writeByte s ea v) b = v :=
  (stored_writeByte s ea v b).1 h

/-- Settles O7: a bus write is a store of the statements, read at an alias and at another address. -/
theorem ramWritesReachEveryAlias : Obligations.RamWritesReachEveryAlias :=
  fun _ _ _ _ => ⟨readByte_writeByte_of_alias, readByte_writeByte_of_not_alias⟩

/-! ## Outside RAM -/

/-- Settles O8: the bus outside RAM, and a read of the two regions below the image. -/
theorem droppedWritesAndStubReads : Obligations.DroppedWritesAndStubReads :=
  fun _ _ _ => ⟨writeByte_of_not_ram, fun hlo hhi => readByte_of_stub hlo (Nat.lt_succ_of_le hhi)⟩

/-! ## The image window -/

/-- The mask of a 16 KiB image leaves the address modulo the image's length, since 0x8000 is a multiple of it. -/
theorem prgOffset_kib16 (addr : Addr) : prgOffset .kib16 addr = addr.toNat % 0x4000 := by
  have hmask : ((addr - 0x8000) &&& 0x3FFF).toNat = (addr - 0x8000).toNat &&& (2 ^ 14 - 1) := by simp
  have hbase : (0x8000 : Addr).toNat = 0x8000 := rfl
  rw [prgOffset, hmask, Nat.and_two_pow_sub_one_eq_mod, BitVec.toNat_sub, hbase]
  omega

theorem prgOffset_kib32 {addr : Addr} (h : 0x8000 ≤ addr.toNat) : prgOffset .kib32 addr = addr.toNat - 0x8000 :=
  BitVec.toNat_sub_of_le h

/-- A read of the window of a 16 KiB image, which repeats every 0x4000 addresses. -/
theorem readByte_of_kib16 {s : State} {addr : Addr} (hsize : s.prgSize = .kib16) (h : 0x8000 ≤ addr.toNat) :
    readByte s addr = s.prg.get (addr.toNat % 0x4000) := by
  rw [readByte_of_prg h, hsize, prgOffset_kib16]

/-- A read of the window of a 32 KiB image, which is linear. -/
theorem readByte_of_kib32 {s : State} {addr : Addr} (hsize : s.prgSize = .kib32) (h : 0x8000 ≤ addr.toNat) :
    readByte s addr = s.prg.get (addr.toNat - 0x8000) := by
  rw [readByte_of_prg h, hsize, prgOffset_kib32 h]

/-- Settles O9: the offset of each address of the statement, as a number, is `k`. -/
theorem prgWindow : Obligations.PrgWindow := by
  intro s k
  have haddr : ∀ n < 0x10000, (BitVec.ofNat 16 n).toNat = n := fun _ => Nat.mod_eq_of_lt
  refine ⟨fun hsize hk => ⟨?_, ?_⟩, fun hsize hk => ?_⟩
  · have hn := haddr (0x8000 + k) (by omega)
    rw [readByte_of_kib16 hsize (by omega), hn, show (0x8000 + k) % 0x4000 = k by omega]
  · have hn := haddr (0xC000 + k) (by omega)
    rw [readByte_of_kib16 hsize (by omega), hn, show (0xC000 + k) % 0x4000 = k by omega]
  · have hn := haddr (0x8000 + k) (by omega)
    rw [readByte_of_kib32 hsize (by omega), hn, Nat.add_sub_cancel_left]

/-! ## The word read -/

/-- The next address as the number the spec gives: modulo 0x10000 (R68). -/
theorem addr_succ_eq_ofNat (a : Addr) : a + 1 = BitVec.ofNat 16 ((a.toNat + 1) % 65536) :=
  BitVec.eq_of_toNat_eq (by simp [BitVec.toNat_add])

/-- Settles O10: the word of two bytes as a number, the high byte being the one at the wrapped next address. -/
theorem wordReadLittleEndianWraps : Obligations.WordReadLittleEndianWraps := by
  intro s a
  rw [readWord, word16_toNat, addr_succ_eq_ofNat]

end Sys2Proof.Machine
end

section
/-! PROOFS. The hook's writes as bus writes in order: the last write to a byte counts (20_memory.md R82, 60_exceptions.md R311). -/

namespace Sys2Proof.Machine

/-! ## A list of writes -/

theorem readByte_applyWrites_of_not_alias {ws : List HostWrite} {s : State} {b : Addr} (h : ∀ wr ∈ ws, ¬ RamAlias wr.1 b) :
    readByte (applyWrites ws s) b = readByte s b := by
  induction ws generalizing s with
  | nil => rfl
  | cons wr ws ih =>
    obtain ⟨hwr, hws⟩ := List.forall_mem_cons.1 h
    exact (ih hws).trans (readByte_writeByte_of_not_alias hwr)

/-- Of a list of writes the last one to an alias of a byte gives the byte. -/
theorem readByte_applyWrites_of_last {ws ws' : List HostWrite} {s : State} {a b : Addr} {v : Byte} (hab : RamAlias a b)
    (hlast : ∀ wr ∈ ws', ¬ RamAlias wr.1 b) : readByte (applyWrites (ws ++ (a, v) :: ws') s) b = v := by
  rw [applyWrites_append, applyWrites, readByte_applyWrites_of_not_alias hlast, readByte_writeByte_of_alias hab]

/-! ## The hook -/

/-- A hook call applies the next list of writes, which for a call beyond the list is empty. -/
theorem runHook_eq_applyWrites (s : State) : runHook s = applyWrites (s.hook.headD []) (s.setHook s.hook.tail) := by
  rw [runHook]
  split
  · next h => rw [h]; exact congrArg s.setHook h
  · next ws later h => rw [h]; rfl

theorem runHook_hook (s : State) : (runHook s).hook = s.hook.tail := by
  rw [runHook_eq]
  rfl

/-- The hook changes RAM and the list of coming writes alone (R311), as the statements write it. -/
theorem runHook_frame (s : State) : { runHook s with ram := s.ram, hook := s.hook } = s := by
  rw [runHook_eq]
  rfl

/-- Settles O53: the frame of the hook, and the two facts about the list of writes that its call applies. -/
theorem hookWritesMemoryOnly : Obligations.HookWritesMemoryOnly := by
  intro s
  refine ⟨runHook_hook s, runHook_frame s, fun b hb => ?_, fun ws a v ws' later b hs hab hlast => ?_⟩
  · rw [runHook_eq_applyWrites, readByte_applyWrites_of_not_alias hb, readByte_setHook]
  · rw [runHook_eq_applyWrites, hs]
    exact readByte_applyWrites_of_last hab hlast

end Sys2Proof.Machine
end

section
/-! PROOFS. The opcode map beside the opcode table, column by column, and the decoder on a byte string (30_encoding.md R91,
R92, R96, R123). -/

namespace Sys2Proof

/-! ## The table entry of a byte -/

theorem opTable_length : opTable.length = 256 := by decide +kernel

theorem opTable_getElem? (op : Byte) : opTable[op.toNat]? = some (entry op) := by
  have hop : op.toNat < opTable.length := opTable_length ▸ op.isLt
  rw [entry, List.getD_eq_getElem _ _ hop, List.getElem?_eq_getElem hop]

theorem entry_mem_opTable (op : Byte) : entry op ∈ opTable := List.mem_of_getElem? (opTable_getElem? op)

/-! ## The opcode map beside the table -/

theorem decodeMap_length : decodeMap.length = 256 := by decide +kernel

theorem decodeMap_getElem? (op : Byte) : decodeMap[op.toNat]? = some (decodeBytes op) := by
  have hop : op.toNat < decodeMap.length := decodeMap_length ▸ op.isLt
  rw [List.getElem?_eq_getElem hop, List.getElem_eq_getD fun _ _ => .jam op]
  rfl

/-- A column of the opcode map holds, at each opcode, the value of the instruction that the opcode gives. -/
theorem decodeBytes_of_column {α : Type} {f : Instr → α} {column : List α} {a b : Byte}
    (h : decodeMap.map (fun d => f (d a b)) = column) (op : Byte) : column[op.toNat]? = some (f (decodeBytes op a b)) := by
  rw [← h, List.getElem?_map, decodeMap_getElem?]
  rfl

/-- What an instruction of the given number of bytes stores of the operand bytes `a`, `b`, as the encoder writes it. -/
def storedOperands (a b : Byte) : Nat → List Byte
  | 2 => [a]
  | 3 => wordBytes (word16 b a)
  | _ => []

theorem storedOperands_eq_take (a b : Byte) {n : Nat} (h : n ≤ 3) : storedOperands a b n = [a, b].take (n - 1) := by
  obtain rfl | rfl | rfl | rfl : n = 0 ∨ n = 1 ∨ n = 2 ∨ n = 3 := by omega
  all_goals simp [storedOperands, wordBytes]

/-- Row by row, the opcode map has the table's mnemonic and mode, with a well-formed instruction that stores the operand bytes. -/
theorem decodeMap_columns (a b : Byte) :
    decodeMap.map (fun d => ((d a b).mnemonic, (d a b).mode, (d a b).wellFormed, (d a b).operandBytes)) =
      opTable.map (fun e => (e.mnemonic, e.mode, true, storedOperands a b e.length)) := by
  simp only [decodeMap, opTable, List.map_append]
  rfl

/-- The operand bytes do not change the opcodes of the opcode map. -/
theorem decodeMap_opcode_congr (a b a' b' : Byte) :
    decodeMap.map (fun d => (d a b).opcode) = decodeMap.map (fun d => (d a' b').opcode) := by
  simp only [decodeMap, List.map_append]
  rfl

/-- The opcode map has the opcodes in order, whatever the operand bytes. -/
theorem decodeMap_opcode (a b : Byte) :
    decodeMap.map (fun d => (d a b).opcode) = (List.range 256).map (BitVec.ofNat 8) :=
  (decodeMap_opcode_congr a b 0 0).trans (by decide +kernel)

@[simp] theorem decodeBytes_opcode (op a b : Byte) : (decodeBytes op a b).opcode = op := by
  have hrow := decodeBytes_of_column (decodeMap_opcode a b) op
  rw [List.getElem?_map, List.getElem?_range op.isLt, Option.map_some, BitVec.ofNat_toNat, BitVec.setWidth_eq] at hrow
  exact (Option.some.inj hrow).symm

/-- The instruction of an opcode has the columns of the opcode's table entry (R92, R95). -/
theorem decodeBytes_columns (op a b : Byte) :
    (decodeBytes op a b).mnemonic = (entry op).mnemonic ∧ (decodeBytes op a b).mode = (entry op).mode ∧
      (decodeBytes op a b).wellFormed = true ∧ (decodeBytes op a b).operandBytes = storedOperands a b (entry op).length := by
  have hrow := decodeBytes_of_column (f := fun i => (i.mnemonic, i.mode, i.wellFormed, i.operandBytes))
    (decodeMap_columns a b) op
  rw [List.getElem?_map, opTable_getElem?] at hrow
  simpa using hrow.symm

/-- Every instruction has one to three bytes (R91). -/
theorem entry_length_bounds (op : Byte) : 1 ≤ (entry op).length ∧ (entry op).length ≤ 3 := by
  have hrows : ∀ e ∈ opTable, 1 ≤ e.length ∧ e.length ≤ 3 := by
    simp only [opTable, List.forall_mem_append]
    decide
  exact hrows _ (entry_mem_opTable op)

theorem decodeBytes_operandBytes (op a b : Byte) :
    (decodeBytes op a b).operandBytes = [a, b].take ((entry op).length - 1) := by
  obtain ⟨-, -, -, hoperands⟩ := decodeBytes_columns op a b
  rw [hoperands, storedOperands_eq_take a b (entry_length_bounds op).2]

theorem decodeBytes_encode_length (op a b : Byte) : (decodeBytes op a b).encode.length = (entry op).length := by
  have hbounds := entry_length_bounds op
  simp only [Instr.encode, decodeBytes_operandBytes, List.length_cons, List.length_take, List.length_nil]
  omega

/-! ## Decoding a byte string -/

theorem decode_cons (op : Byte) (bs : List Byte) :
    decode (op :: bs) = if bs.length < (entry op).length - 1 then .error (.missingOperand op)
      else .ok (decodeBytes op (bs.getD 0 0) (bs.getD 1 0), bs.drop ((entry op).length - 1)) := rfl

/-- The operand bytes that the decoder hands to the opcode map are the first ones of the byte string. -/
theorem take_operands {bs : List Byte} {n : Nat} (hn : n ≤ 2) (hlen : n ≤ bs.length) :
    [bs.getD 0 0, bs.getD 1 0].take n = bs.take n := by
  obtain rfl | rfl | rfl : n = 0 ∨ n = 1 ∨ n = 2 := by omega
  · rfl
  · match bs, hlen with
    | _ :: _, _ => rfl
  · match bs, hlen with
    | _ :: _ :: _, _ => rfl

/-- Settles O3: the columns of the instruction that the opcode map gives, the length of each mode row by row of the table, and the
decoder's one test. -/
theorem decodeFollowsOpcodeTable : Obligations.DecodeFollowsOpcodeTable := by
  refine ⟨opTable_length, fun op a b => ?_, fun op bs => ?_⟩
  · obtain ⟨hmnemonic, hmode, -, -⟩ := decodeBytes_columns op a b
    refine ⟨decodeBytes_opcode op a b, hmnemonic, hmode, decodeBytes_encode_length op a b, ?_⟩
    have hrow := entry_mem_opTable op
    generalize entry op = e at hrow ⊢
    revert e
    simp only [opTable, List.forall_mem_append]
    decide
  · rw [decode_cons]
    split
    · next hshort => exact iff_of_true ⟨_, rfl⟩ (by omega)
    · next hlong => exact iff_of_false (fun ⟨_, h⟩ => nomatch h) (by omega)

/-- Settles O2: the decoder takes the operand bytes off the byte string, and the instruction stores the same ones. -/
theorem decodedBytesReencode : Obligations.DecodedBytesReencode := by
  rintro (_ | ⟨op, bs⟩) i rest h
  · cases h
  · rw [decode_cons] at h
    split at h
    · cases h
    · next hlong =>
      obtain ⟨rfl, rfl⟩ := Prod.mk.inj (Except.ok.inj h)
      obtain ⟨-, -, hwf, -⟩ := decodeBytes_columns op (bs.getD 0 0) (bs.getD 1 0)
      have hmax := (entry_length_bounds op).2
      refine ⟨hwf, ?_⟩
      rw [Instr.encode, decodeBytes_opcode, decodeBytes_operandBytes, take_operands (by omega) (by omega),
        List.cons_append, List.take_append_drop]

/-- Settles O4: each word is decoded as written. -/
theorem encodingSamples : Obligations.EncodingSamples := by
  unfold Obligations.EncodingSamples
  and_intros
  all_goals rfl

end Sys2Proof
end

section
/-! PROOFS. The opcode map gives every well-formed instruction back from its own bytes (30_encoding.md R91, R94). -/

namespace Sys2Proof

/-- A form with a 16-bit operand is given back when its two bytes are joined again (R94). -/
theorem eq_of_joined_bytes {form : Addr → Instr} {i : Instr} (w : Addr) (h : i = form (word16 (hi8 w) (lo8 w))) :
    i = form w := by
  rwa [word16_hi8_lo8] at h

/-- The opcode map gives the instruction back from its opcode and the bytes from its operand on. -/
def DecodesBack (i : Instr) : Prop :=
  ∀ rest : List Byte, decodeBytes i.opcode ((i.operandBytes ++ rest).getD 0 0) ((i.operandBytes ++ rest).getD 1 0) = i

theorem jam_decodesBack {op : Byte} (hop : op ∈ jamOpcodes) : DecodesBack (.jam op) := by
  intro rest
  fin_cases hop <;> rfl

theorem anc_decodesBack {op : Byte} (hop : op ∈ ancOpcodes) (b : Byte) : DecodesBack (.anc op b) := by
  intro rest
  fin_cases hop <;> rfl

theorem nopUnofficial_decodesBack {op : Byte} {o : NopOperand} (hop : op ∈ nopOpcodes o) :
    DecodesBack (.nopUnofficial op o) := by
  intro rest
  cases o with
  | imp | imm | zp | zpX => fin_cases hop <;> rfl
  | abs w | absX w =>
    apply eq_of_joined_bytes w
    fin_cases hop <;> rfl

/-- Every form of every instruction, the forms with a 16-bit operand by joining its bytes (R91, R115). -/
theorem decodesBack {i : Instr} (hwf : i.wellFormed = true) : DecodesBack i := by
  cases i with
  | nopUnofficial op o => exact nopUnofficial_decodesBack (List.contains_iff_mem.1 hwf)
  | anc op b => exact anc_decodesBack (List.contains_iff_mem.1 hwf) b
  | jam op => exact jam_decodesBack (List.contains_iff_mem.1 hwf)
  | lda o | adc o | sbc o | cmp o | and o | ora o | eor o =>
    intro rest
    cases o with
    | imm | zp | zpX | indX | indY => rfl
    | abs w | absX w | absY w => apply eq_of_joined_bytes w; rfl
  | sta o | slo o | rla o | sre o | rra o | dcp o | isb o =>
    intro rest
    cases o with
    | zp | zpX | indX | indY => rfl
    | abs w | absX w | absY w => apply eq_of_joined_bytes w; rfl
  | asl o | lsr o | rol o | ror o =>
    intro rest
    cases o with
    | acc | zp | zpX => rfl
    | abs w | absX w => apply eq_of_joined_bytes w; rfl
  | inc o | dec o =>
    intro rest
    cases o with
    | zp | zpX => rfl
    | abs w | absX w => apply eq_of_joined_bytes w; rfl
  | ldx o =>
    intro rest
    cases o with
    | imm | zp | zpY => rfl
    | abs w | absY w => apply eq_of_joined_bytes w; rfl
  | ldy o =>
    intro rest
    cases o with
    | imm | zp | zpX => rfl
    | abs w | absX w => apply eq_of_joined_bytes w; rfl
  | stx o =>
    intro rest
    cases o with
    | zp | zpY => rfl
    | abs w => apply eq_of_joined_bytes w; rfl
  | sty o =>
    intro rest
    cases o with
    | zp | zpX => rfl
    | abs w => apply eq_of_joined_bytes w; rfl
  | cpx o | cpy o =>
    intro rest
    cases o with
    | imm | zp => rfl
    | abs w => apply eq_of_joined_bytes w; rfl
  | bit o =>
    intro rest
    cases o with
    | zp => rfl
    | abs w => apply eq_of_joined_bytes w; rfl
  | jmp o =>
    intro rest
    cases o with
    | abs w | ind w => apply eq_of_joined_bytes w; rfl
  | lax o =>
    intro rest
    cases o with
    | zp | zpY | indX | indY => rfl
    | abs w | absY w => apply eq_of_joined_bytes w; rfl
  | sax o =>
    intro rest
    cases o with
    | zp | zpY | indX => rfl
    | abs w => apply eq_of_joined_bytes w; rfl
  | sha o =>
    intro rest
    cases o with
    | indY => rfl
    | absY w => apply eq_of_joined_bytes w; rfl
  | jsr w | shx w | shy w | tas w | las w =>
    intro rest
    apply eq_of_joined_bytes w
    rfl
  | bpl | bmi | bvc | bvs | bcc | bcs | bne | beq | sbcUnofficial | alr | arr | sbx | ane | lxa
  | tax | tay | txa | tya | tsx | txs | pha | php | pla | plp | inx | iny | dex | dey | rts | rti | brk
  | clc | sec | cli | sei | cld | sed | clv | nop => exact fun _ => rfl

theorem operandBytes_length {i : Instr} (hwf : i.wellFormed = true) :
    i.operandBytes.length = (entry i.opcode).length - 1 := by
  have hlength := decodeBytes_encode_length i.opcode ((i.operandBytes ++ []).getD 0 0) ((i.operandBytes ++ []).getD 1 0)
  rw [decodesBack hwf [], Instr.encode, List.length_cons] at hlength
  omega

/-- Settles O1: the bytes after the opcode are as many as its entry says, and the opcode map gives the instruction
back from them. -/
theorem decodeEncodeRoundTrip : Obligations.DecodeEncodeRoundTrip := by
  intro i hwf rest
  have hlength := operandBytes_length hwf
  have henough : ¬ (i.operandBytes ++ rest).length < (entry i.opcode).length - 1 := by
    rw [List.length_append]
    omega
  rw [Instr.encode, List.cons_append, decode_cons, if_neg henough, decodesBack hwf rest, ← hlength, List.drop_left]

end Sys2Proof
end

section
/-! PROOFS. The columns of the opcode table against the rules: the page-cross flag (30_encoding.md R117), and the Encoding lines with
R113 and R114, which between them name all 256 opcodes. -/

namespace Sys2Proof

/-- Settles O5, row by row of the table. -/
theorem pageCrossFlagExactlyForIndexedReads : Obligations.PageCrossFlagExactlyForIndexedReads := by
  intro op
  have hrow := entry_mem_opTable op
  generalize entry op = e at hrow ⊢
  revert e
  simp only [opTable, List.forall_mem_append]
  and_intros
  all_goals decide

/-- A list of opcodes as the number whose bit `op` is set for each of them. -/
def opcodeMask : List Byte → Nat
  | [] => 0
  | op :: ops => 2 ^ op.toNat ||| opcodeMask ops

theorem testBit_opcodeMask (ops : List Byte) (op : Byte) : (opcodeMask ops).testBit op.toNat = true ↔ op ∈ ops := by
  induction ops with
  | nil => simp [opcodeMask]
  | cons op' ops ih =>
    rw [opcodeMask, Nat.testBit_or, Bool.or_eq_true, Nat.testBit_two_pow, decide_eq_true_iff, BitVec.toNat_inj, ih,
      List.mem_cons, eq_comm]

/-- The opcodes of all the Encoding lines and of R113, in the order of the rules. -/
def listedOpcodes : List Byte :=
  (officialLines ++ unofficialLines).flatMap (fun l => l.forms.map (·.1)) ++ unimplementedOpcodes.map (·.1)

/-- The rules name every byte: the mask of what they list has all 256 bits set. -/
theorem mem_listedOpcodes (op : Byte) : op ∈ listedOpcodes := by
  have hmask : opcodeMask listedOpcodes = 2 ^ 256 - 1 := by decide +kernel
  rw [← testBit_opcodeMask, hmask, Nat.testBit_two_pow_sub_one]
  exact decide_eq_true op.isLt

/-- Settles O60: each listed form is looked up in the table, every byte is listed, and the tiers are counted row by row. -/
theorem tableColumnsFollowInstructionRules : Obligations.TableColumnsFollowInstructionRules := by
  refine ⟨by decide, by decide, by decide, fun op => ?_, ?_⟩
  · have hmem := mem_listedOpcodes op
    simp only [listedOpcodes, List.mem_append, List.mem_flatMap, List.mem_map] at hmem ⊢
    exact hmem
  · simp only [opTable, List.countP_append]
    exact ⟨rfl, rfl, rfl⟩

end Sys2Proof
end

section
/-! PROOFS. The addressing-mode resolver as numbers (30_encoding.md R101 to R110), and JMP, whose indirect form has a pointer of its
own (R108, 44_control_flow.md R171). -/

namespace Sys2Proof.Machine

/-- `Read16ZP(z)` in the form of the statements' pointers, which count modulo 256 (30_encoding.md R106). -/
theorem readWordZP_toNat_ofNat (s : State) (z : Byte) :
    (readWordZP s z).toNat =
      256 * (readByte s (BitVec.ofNat 16 ((z.toNat + 1) % 256))).toNat + (readByte s (BitVec.ofNat 16 z.toNat)).toNat := by
  rw [readWordZP_toNat, zeroPage_eq_ofNat, zeroPage_eq_ofNat, BitVec.toNat_add]
  rfl

theorem xIndex_toNat (s : State) : (xIndex s).toNat = s.x.toNat := zeroPage_toNat s.x

theorem yIndex_toNat (s : State) : (yIndex s).toNat = s.y.toNat := zeroPage_toNat s.y

/-- Settles O6: each address is a sum of numbers modulo 2^8 in the zero page and modulo 2^16 elsewhere, and a page is the
number over 256. -/
theorem effectiveAddresses : Obligations.EffectiveAddresses := by
  intro s z w rd ptr
  have hptr : ∀ z : Byte, (readWordZP s z).toNat = ptr z.toNat := readWordZP_toNat_ofNat s
  simp [effAddr, crossed, zeroPage_toNat, pagesDiffer_iff, BitVec.toNat_add, xIndex_toNat, yIndex_toNat, hptr]

/-- The address of the pointer's high byte stays in the pointer's page (R108). -/
theorem pointerHigh_eq_ofNat (w : Addr) :
    word16 (hi8 w) (lo8 w + 1) = BitVec.ofNat 16 (w.toNat / 256 * 256 + (w.toNat % 256 + 1) % 256) := by
  have hw := w.isLt
  have hlo : (lo8 w + 1).toNat = (w.toNat % 256 + 1) % 256 := by simp [BitVec.toNat_add, lo8_toNat]
  apply BitVec.eq_of_toNat_eq
  rw [word16_toNat, hi8_toNat, hlo, BitVec.toNat_ofNat]
  omega

theorem indirectTarget_toNat (w : Addr) (s : State) :
    (indirectTarget w s).toNat =
      256 * (readByte s (BitVec.ofNat 16 (w.toNat / 256 * 256 + (w.toNat % 256 + 1) % 256))).toNat +
        (readByte s (BitVec.ofNat 16 w.toNat)).toNat := by
  rw [indirectTarget, word16_toNat, pointerHigh_eq_ofNat, BitVec.ofNat_toNat, BitVec.setWidth_eq]

theorem exec_jmp_abs (w : Addr) (s : State) : exec (.jmp (.abs w)) s = .next ((s.setPc w).addCycles 3) := rfl

theorem exec_jmp_ind (w : Addr) (s : State) :
    exec (.jmp (.ind w)) s = .next ((s.setPc (indirectTarget w s)).addCycles 5) := rfl

/-- Settles O26: both forms complete at every state and write PC and CYC alone. -/
theorem jumpInstructions : Obligations.JumpInstructions := by
  intro s w rd
  refine ⟨⟨_, exec_jmp_abs w s, ?_⟩, ⟨_, exec_jmp_ind w s, indirectTarget_toNat w s, ?_⟩⟩
  all_goals simp [SameRegisters, SameMemory, SameSurroundings]

end Sys2Proof.Machine
end

section
/-! PROOFS. The conditional branches (44_control_flow.md R175 to R184, 30_encoding.md R109). -/

namespace Sys2Proof.Machine

/-! ## The target and the extra cycles -/

/-- The target of a branch as a number, the offset being signed (R109). -/
theorem branchTarget_toNat (r : Byte) (s : State) :
    ((branchTarget r s).toNat : Int) = ((s.pc.toNat : Int) + 2 + r.toInt) % 65536 := by
  have hoffset : (r.signExtend 16).toInt = r.toInt := BitVec.toInt_signExtend_of_le (by decide)
  rw [← hoffset, BitVec.toInt_eq_toNat_cond, branchTarget, BitVec.toNat_add, BitVec.toNat_add]
  split
  · simp
  · simp
    omega

/-- The extra cycles of a taken branch, the pages being compared as numbers (R176). -/
theorem branchExtra_eq (target : Addr) (s : State) :
    branchExtra target s = if target.toNat / 256 = (s.pc.toNat + 2) % 65536 / 256 then 1 else 2 := by
  have hnext : (s.pc + 2).toNat = (s.pc.toNat + 2) % 65536 := by simp [BitVec.toNat_add]
  have hpage := pagesDiffer_iff target (s.pc + 2)
  rw [hnext] at hpage
  unfold branchExtra
  split <;> simp_all [bitNat]

/-! ## Taken and not taken -/

/-- The row of every branch in the opcode table (R116). -/
def branchEntry (m : Mnemonic) : Entry := ⟨m, .relative, 2, some 2, false, .official⟩

section
variable {i : Instr} {m : Mnemonic} {r : Byte} {s : State}

theorem performBranch_taken (h : entry i.opcode = branchEntry m) :
    performBranch i true r s = .next ((s.setPc (branchTarget r s)).addCycles (2 + branchExtra (branchTarget r s) s)) := by
  rw [performBranch, if_pos rfl, performJump_of_admitted (admitted_of_official (by rw [h]; rfl)), cost, h]
  rfl

theorem performBranch_not_taken (h : entry i.opcode = branchEntry m) :
    performBranch i false r s = .next ((s.setPc (s.pc + 2)).addCycles 2) := by
  rw [performBranch, if_neg Bool.false_ne_true, perform_of_admitted (admitted_of_official (by rw [h]; rfl)), nextPc, cost, h]
  rfl
end

/-- Settles O30: the eight branches have one row of the table and one meaning, which differ in the flag alone. -/
theorem conditionalBranches : Obligations.ConditionalBranches := by
  intro s r next target done
  have htarget : ((branchTarget r s).toNat : Int) = target := branchTarget_toNat r s
  have hextra : branchExtra (branchTarget r s) s = if target / 256 = (next : Int) / 256 then 1 else 2 := by
    rw [← htarget, branchExtra_eq]
    norm_cast
  have hdone : ∀ {i : Instr} {m : Mnemonic} {cond : Bool}, entry i.opcode = branchEntry m →
      exec i s = performBranch i cond r s → done i cond := by
    intro i m cond hentry hexec
    cases cond with
    | true =>
      refine ⟨_, hexec.trans (performBranch_taken hentry), htarget, ?_⟩
      simp [hextra, Nat.add_assoc, SameRegisters, SameMemory, SameSurroundings]
    | false =>
      refine ⟨_, hexec.trans (performBranch_not_taken hentry), ?_⟩
      simp [next, SameRegisters, SameMemory, SameSurroundings]
  exact ⟨hdone rfl rfl, hdone rfl rfl, hdone rfl rfl, hdone rfl rfl, hdone rfl rfl, hdone rfl rfl, hdone rfl rfl, hdone rfl rfl⟩

end Sys2Proof.Machine
end

section
/-! PROOFS. IllegalOpcode as the meaning of an instruction (60_exceptions.md R301, 46_unofficial.md R196). -/

namespace Sys2Proof.Machine

/-- Settles O40: an instruction that is not admitted cannot have run, so it raised IllegalOpcode. -/
theorem illegalOpcodeHalts : Obligations.IllegalOpcodeHalts := by
  intro s halted
  refine ⟨fun i hwf htier => ?_, fun _ _ => rfl, fun _ _ => ⟨rfl, rfl, rfl, rfl, rfl, rfl, rfl, rfl⟩⟩
  have hnot : admitted s i.opcode = false := not_admitted_iff.2 htier
  obtain ⟨t, hexec, ⟨hadmitted, -⟩ | ⟨-, rfl⟩⟩ := exec_runsOrRaises i s
  · simp [hnot] at hadmitted
  · exact hexec

end Sys2Proof.Machine
end

section
/-! PROOFS. Loads, stores and register transfers (40_load_store_transfer.md R131 to R142) and SAX (46_unofficial.md R199), by what an
instruction that advances PC completes in: one that writes registers and flags alone, and one that stores a byte (10_state.md R47
steps 4 to 6). -/

namespace Sys2Proof.Machine

/-! ## PC and CYC after an instruction -/

theorem encode_length {i : Instr} (hwf : i.wellFormed = true) : i.encode.length = (entry i.opcode).length := by
  have hlength := entry_length_bounds i.opcode
  rw [Instr.encode, List.length_cons, operandBytes_length hwf]
  omega

/-- The base cost and the penalty as the statements write them (R47 step 6). -/
theorem cost_eq (op : Byte) (cr : Bool) :
    cost op cr = (entry op).cycles.getD 0 + if (entry op).pageCross ∧ cr then 1 else 0 := by
  simp [cost, bitNat]

/-- PC and CYC where perform leaves them after an effect that leaves CYC alone (R47 steps 5 and 6). -/
theorem advanced_of_cyc_eq {i : Instr} {cr : Bool} {s u : State} (hwf : i.wellFormed = true) (hcyc : u.cyc = s.cyc) :
    Advanced i cr s ((u.setPc (nextPc i.opcode s)).addCycles (cost i.opcode cr)) := by
  simp [Advanced, nextPc, encode_length hwf, cost_eq, hcyc, Nat.add_assoc]

/-! ## Effects on registers and flags alone -/

/-- `s` with the A, X, Y, SP and P of `u`. -/
def State.withRegistersOf (s u : State) : State := { s with a := u.a, x := u.x, y := u.y, sp := u.sp, p := u.p }

section
variable {s u : State}

theorem cyc_of_eq_withRegistersOf (h : u = s.withRegistersOf u) : u.cyc = s.cyc := by
  rw [h]
  rfl

theorem sameMemory_of_eq_withRegistersOf (h : u = s.withRegistersOf u) : SameMemory s u := by
  rw [h]
  exact fun _ => rfl

theorem sameSurroundings_of_eq_withRegistersOf (h : u = s.withRegistersOf u) : SameSurroundings s u := by
  rw [h]
  exact ⟨rfl, rfl, rfl, rfl, rfl, rfl, rfl, rfl⟩
end

/-- `SetNZ(v)` writes the entries of the statements (10_state.md R41). -/
theorem flagsAfter_nzOf {s t : State} {v : Byte} (hp : t.p = setNZ s.p v) : FlagsAfter s t (nzOf v) := by
  intro f
  rw [State.flag, hp, getFlag_setNZ, msb_eq_decide, eq_zero_eq_decide]
  cases f <;> rfl

section
variable {i : Instr} {s : State}

/-- An admitted instruction whose effect writes registers and flags alone. -/
theorem completes_of_eq_withRegistersOf (effect : State → State) {cr : Bool} {flags : List (Flag × Bool)}
    (hexec : exec i s = perform i cr effect s) (hwf : i.wellFormed = true) (hadmitted : admitted s i.opcode = true)
    (hframe : effect s = s.withRegistersOf (effect s)) (hflags : FlagsAfter s (effect s) flags) :
    Completes i s fun t =>
      t.a = (effect s).a ∧ t.x = (effect s).x ∧ t.y = (effect s).y ∧ t.sp = (effect s).sp ∧ FlagsAfter s t flags ∧
      SameMemory s t ∧ SameSurroundings s t ∧ Advanced i cr s t := by
  have hmemory : SameMemory s (effect s) := sameMemory_of_eq_withRegistersOf hframe
  have hsurroundings : SameSurroundings s (effect s) := sameSurroundings_of_eq_withRegistersOf hframe
  exact ⟨_, hexec.trans (perform_of_admitted hadmitted), rfl, rfl, rfl, rfl, hflags, hmemory, hsurroundings,
    advanced_of_cyc_eq hwf (cyc_of_eq_withRegistersOf hframe)⟩

/-- An admitted instruction that stores a byte at its effective address, in RAM or outside it (R111, 20_memory.md R62). -/
theorem completes_of_performStore {m : MemMode} {value : State → Byte} (hexec : exec i s = performStore i m value s)
    (hwf : i.wellFormed = true) (hadmitted : admitted s i.opcode = true) :
    Completes i s fun t =>
      Stored (effAddr m s) (value s) s t ∧ SameRegisters s t ∧ t.p = s.p ∧ SameSurroundings s t ∧
      Advanced i (crossed m s) s t :=
  ⟨_, hexec.trans (perform_of_admitted hadmitted), stored_writeByte s (effAddr m s) (value s), by simp [SameRegisters],
    by simp, writeByte_sameSurroundings s (effAddr m s) (value s), advanced_of_cyc_eq hwf (writeByte_cyc ..)⟩
end

/-! ## The statements -/

/-- Settles O19: each load writes the operand to its register and sets N and Z by it. -/
theorem loadInstructions : Obligations.LoadInstructions := by
  intro s
  refine ⟨fun o => ?_, fun o => ?_, fun o => ?_⟩
  · intro m
    have hadmitted : admitted s (Instr.lda o).opcode = true := admitted_of_official (by cases o <;> rfl)
    exact completes_of_eq_withRegistersOf (fun s => (s.setA m).setNZ m) rfl rfl hadmitted rfl (flagsAfter_nzOf rfl)
  · intro m
    have hadmitted : admitted s (Instr.ldx o).opcode = true := admitted_of_official (by cases o <;> rfl)
    obtain ⟨t, hexec, ha, hx, hrest⟩ :=
      completes_of_eq_withRegistersOf (fun s => (s.setX m).setNZ m) rfl rfl hadmitted rfl (flagsAfter_nzOf rfl)
    exact ⟨t, hexec, hx, ha, hrest⟩
  · intro m
    have hadmitted : admitted s (Instr.ldy o).opcode = true := admitted_of_official (by cases o <;> rfl)
    obtain ⟨t, hexec, ha, hx, hy, hrest⟩ :=
      completes_of_eq_withRegistersOf (fun s => (s.setY m).setNZ m) rfl rfl hadmitted rfl (flagsAfter_nzOf rfl)
    exact ⟨t, hexec, hy, ha, hx, hrest⟩

/-- Settles O20: each store is one bus write, admitted by the tier of its forms. -/
theorem storeInstructions : Obligations.StoreInstructions := by
  intro s done
  refine ⟨fun o => ?_, fun o => ?_, fun o => ?_, fun o hunofficial => ?_⟩
  · exact completes_of_performStore rfl rfl (admitted_of_official (by cases o <;> rfl))
  · exact completes_of_performStore rfl rfl (admitted_of_official (by cases o <;> rfl))
  · exact completes_of_performStore rfl rfl (admitted_of_official (by cases o <;> rfl))
  · exact completes_of_performStore (value := fun s => s.a &&& s.x) rfl rfl
      (admitted_of_unofficial (by cases o <;> rfl) hunofficial)

/-- Settles O21: each transfer copies one register and, but for TXS, sets N and Z by it. -/
theorem transferInstructions : Obligations.TransferInstructions := by
  intro s done
  have hdone : ∀ {i : Instr} (effect : State → State) {flags : List (Flag × Bool)}, exec i s = perform i false effect s →
      i.wellFormed = true → (entry i.opcode).tier = .official → effect s = s.withRegistersOf (effect s) →
      FlagsAfter s (effect s) flags → done i (effect s).a (effect s).x (effect s).y (effect s).sp flags :=
    fun effect _ hexec hwf htier => completes_of_eq_withRegistersOf effect hexec hwf (admitted_of_official htier)
  refine ⟨?_, ?_, ?_, ?_, ?_, ?_⟩
  · exact hdone (fun s => (s.setX s.a).setNZ s.a) rfl rfl rfl rfl (flagsAfter_nzOf rfl)
  · exact hdone (fun s => (s.setY s.a).setNZ s.a) rfl rfl rfl rfl (flagsAfter_nzOf rfl)
  · exact hdone (fun s => (s.setA s.x).setNZ s.x) rfl rfl rfl rfl (flagsAfter_nzOf rfl)
  · exact hdone (fun s => (s.setA s.y).setNZ s.y) rfl rfl rfl rfl (flagsAfter_nzOf rfl)
  · exact hdone (fun s => (s.setX s.sp).setNZ s.sp) rfl rfl rfl rfl (flagsAfter_nzOf rfl)
  · exact hdone (fun s => s.setSp s.x) rfl rfl rfl rfl fun _ => rfl

end Sys2Proof.Machine
end

section
/-! PROOFS. The stack instructions (41_stack.md R143 to R146): a push is a store at the stack location computed from SP, a pull writes
registers and flags alone, and both advance PC (10_state.md R31 to R34, R45). -/

namespace Sys2Proof.Machine

/-- The image PHP pushes, with B and bit 5 set (10_state.md R45). -/
theorem pushImage_true (p : Byte) : pushImage p true = p ||| 0x30 := by
  revert p
  decide

/-- The byte a pull returns, at the slot counted modulo 256 (R32, R33). -/
theorem pulled8_eq_readByte (s : State) : pulled8 s = readByte s (BitVec.ofNat 16 (0x100 + (s.sp.toNat + 1) % 256)) :=
  congrArg (readByte s) (stackAddr_add s.sp 1)

/-- A push stores its byte at the slot of SP and nothing else (R31). -/
theorem stored_push8 (s : State) (v : Byte) : Stored (BitVec.ofNat 16 (0x100 + s.sp.toNat)) v s (push8 s v) :=
  stackAddr_eq_ofNat s.sp ▸ stored_writeByte s (stackAddr s.sp) v

/-- `LoadP(v)` clears B, sets bit 5 and copies the other six flags of `v` (R45). -/
theorem flagsAfter_loadP {s t : State} {v : Byte} (hp : t.p = loadP v) :
    FlagsAfter s t ([(.b, false), (.u, true)] ++
      ([.c, .z, .i, .d, .v, .n] : List Flag).map (fun f => (f, getFlag v f))) := by
  intro f
  rw [State.flag, hp, getFlag_loadP]
  cases f <;> rfl

/-- An admitted instruction whose effect is one push. -/
theorem completes_of_push8 {i : Instr} {s : State} (value : State → Byte)
    (hexec : exec i s = perform i false (fun s => push8 s (value s)) s) (hwf : i.wellFormed = true)
    (hadmitted : admitted s i.opcode = true) :
    Completes i s fun t =>
      Stored (BitVec.ofNat 16 (0x100 + s.sp.toNat)) (value s) s t ∧ t.sp = s.sp - 1 ∧ t.a = s.a ∧ t.x = s.x ∧ t.y = s.y ∧
      t.p = s.p ∧ SameSurroundings s t ∧ Advanced i false s t :=
  ⟨_, hexec.trans (perform_of_admitted hadmitted), stored_push8 s (value s), rfl, push8_a .., push8_x .., push8_y .., push8_p ..,
    writeByte_sameSurroundings s (stackAddr s.sp) (value s), advanced_of_cyc_eq hwf (push8_cyc ..)⟩

/-- Settles O22: PHA and PHP are one push each, PLA and PLP one pull into A and into P. -/
theorem stackInstructions : Obligations.StackInstructions := by
  intro s slot top
  have hpulled : pulled8 s = top := pulled8_eq_readByte s
  refine ⟨?pha, ?php, ?pla, ?plp⟩
  case pha => exact completes_of_push8 State.a rfl rfl (admitted_of_official rfl)
  case php =>
    rw [← pushImage_true]
    exact completes_of_push8 (fun s => pushImage s.p true) rfl rfl (admitted_of_official rfl)
  case pla =>
    rw [← hpulled]
    obtain ⟨t, hexec, ha, hx, hy, hsp, hrest⟩ :=
      completes_of_eq_withRegistersOf (i := .pla) (fun s => ((pull8 s).setA (pulled8 s)).setNZ (pulled8 s)) rfl rfl
        (admitted_of_official rfl) rfl (flagsAfter_nzOf rfl)
    exact ⟨t, hexec, ha, hsp, hx, hy, hrest⟩
  case plp =>
    rw [← hpulled]
    obtain ⟨t, hexec, ha, hx, hy, hsp, hrest⟩ :=
      completes_of_eq_withRegistersOf (i := .plp) (fun s => (pull8 s).setP (loadP (pulled8 s))) rfl rfl
        (admitted_of_official rfl) rfl (flagsAfter_loadP rfl)
    exact ⟨t, hexec, hsp, ha, hx, hy, hrest⟩

end Sys2Proof.Machine
end

section
/-! PROOFS. The adder as integers (42_arith_logic.md R149), and ADC and SBC, which add the operand or its complement to A (R150,
R151, 46_unofficial.md R200). -/

namespace Sys2Proof.Machine

/-! ## The adder -/

theorem bitNat_eq_toNat (on : Bool) : bitNat on = on.toNat := by cases on <;> rfl

/-- Testing bit 7 with a mask. -/
theorem and_signMask_bne_zero (v : Byte) : (v &&& 0x80 != 0) = v.getLsbD 7 := by revert v; decide

section
variable (a m : Byte) (c : Bool)

theorem add8_r_toNat : (add8 a m c).r.toNat = (a.toNat + m.toNat + c.toNat) % 256 := by
  rw [← bitNat_eq_toNat]
  rfl

theorem add8_carry : (add8 a m c).carry = decide (0xFF < a.toNat + m.toNat + c.toNat) := by
  rw [← bitNat_eq_toNat]
  rfl

/-- Overflow is two operands of one sign with a result of the other (R149). -/
theorem add8_overflow_eq_signs :
    (add8 a m c).overflow = (!(a.getLsbD 7 ^^ m.getLsbD 7) && (a.getLsbD 7 ^^ (add8 a m c).r.getLsbD 7)) := by
  have hmask : (add8 a m c).overflow = (~~~(a ^^^ m) &&& (a ^^^ (add8 a m c).r)).getLsbD 7 := and_signMask_bne_zero _
  simp [hmask]

theorem add8_overflow :
    (add8 a m c).overflow =
      decide (a.toInt + m.toInt + c.toNat < -128 ∨ 127 < a.toInt + m.toInt + c.toNat) := by
  have ha := a.isLt
  have hm := m.isLt
  have hc := c.toNat_le
  have hr := add8_r_toNat a m c
  rw [add8_overflow_eq_signs, msb_eq_decide, msb_eq_decide, msb_eq_decide, BitVec.toInt_eq_toNat_cond,
    BitVec.toInt_eq_toNat_cond, Bool.eq_iff_iff]
  simp only [Bool.and_eq_true, Bool.not_eq_eq_eq_not, Bool.not_true, bne_eq_false_iff_eq, bne_iff_ne, ne_eq, decide_eq_decide,
    decide_eq_true_eq]
  omega

end

/-- Settles O13: result, carry and overflow of the adder, each a lemma of its own. -/
theorem adderIsExact : Obligations.AdderIsExact := by
  intro a m c
  rw [add8_carry, add8_overflow]
  exact ⟨add8_r_toNat a m c, decide_eq_true_iff, decide_eq_true_iff⟩

/-! ## ADC -/

/-- The flags that adding `m` to A writes (R150). -/
theorem flagsAfter_addToA (m : Byte) (s : State) :
    FlagsAfter s (addToA m s) (nzOf (addToA m s).a ++
      [(.c, (add8 s.a m (s.flag .c)).carry), (.v, (add8 s.a m (s.flag .c)).overflow)]) := by
  intro f
  simp only [State.flag_addToA, addToA_a, msb_eq_decide, eq_zero_eq_decide]
  cases f <;> rfl

/-- An admitted instruction that adds a byte to A and writes nothing but A and flags. -/
theorem completes_of_addToA {i : Instr} {s : State} {cr : Bool} (m : Byte) (hexec : exec i s = perform i cr (addToA m) s)
    (hwf : i.wellFormed = true) (hadmitted : admitted s i.opcode = true) :
    Completes i s fun t =>
      t.a = (add8 s.a m (s.flag .c)).r ∧ t.x = s.x ∧ t.y = s.y ∧ t.sp = s.sp ∧
      FlagsAfter s t (nzOf t.a ++
        [(.c, (add8 s.a m (s.flag .c)).carry), (.v, (add8 s.a m (s.flag .c)).overflow)]) ∧
      SameMemory s t ∧ SameSurroundings s t ∧ Advanced i cr s t := by
  obtain ⟨t, ht, ha, hx, hy, hsp, hflags, hrest⟩ :=
    completes_of_eq_withRegistersOf (addToA m) hexec hwf hadmitted rfl (flagsAfter_addToA m s)
  exact ⟨t, ht, ha, hx, hy, hsp, ha ▸ hflags, hrest⟩

/-- Settles O14: ADC adds its operand to A, and the adder is exact. -/
theorem addWithCarry : Obligations.AddWithCarry := by
  intro o s m c
  obtain ⟨t, ht, ha, hx, hy, hsp, hflags, hrest⟩ :=
    completes_of_addToA (i := .adc o) m rfl rfl (admitted_of_official (by cases o <;> rfl))
  rw [add8_carry, add8_overflow] at hflags
  exact ⟨t, ht, ha ▸ add8_r_toNat .., hx, hy, hsp, hflags, hrest⟩

/-! ## SBC -/

theorem toInt_not_byte (m : Byte) : (~~~m).toInt = -1 - m.toInt := by
  have hm := m.isLt
  rw [BitVec.toInt_eq_toNat_cond, BitVec.toInt_eq_toNat_cond, BitVec.toNat_not]
  omega

section
variable (a m : Byte) (c : Bool)

theorem add8_not_r_toNat : ((add8 a (~~~m) c).r.toNat : Int) = ((a.toNat : Int) - m.toNat - (1 - c.toNat)) % 256 := by
  have hm := m.isLt
  rw [add8_r_toNat, BitVec.toNat_not]
  omega

/-- The carry out is the absence of a borrow. -/
theorem add8_not_carry : (add8 a (~~~m) c).carry = decide ((0 : Int) ≤ a.toNat - m.toNat - (1 - c.toNat)) := by
  have hm := m.isLt
  rw [add8_carry, BitVec.toNat_not]
  exact decide_eq_decide.2 (by omega)

theorem add8_not_overflow :
    (add8 a (~~~m) c).overflow =
      decide (a.toInt - m.toInt - (1 - c.toNat) < -128 ∨ 127 < a.toInt - m.toInt - (1 - c.toNat)) := by
  rw [add8_overflow, toInt_not_byte]
  exact decide_eq_decide.2 (by omega)

end

/-- An admitted instruction that adds the complement of a byte to A: it subtracts the byte with borrow (R151). -/
theorem completes_of_addToA_not {i : Instr} {s : State} {cr : Bool} (m : Byte)
    (hexec : exec i s = perform i cr (addToA (~~~m)) s) (hwf : i.wellFormed = true) (hadmitted : admitted s i.opcode = true) :
    Completes i s fun t => Subtracted m s t ∧ SameMemory s t ∧ SameSurroundings s t ∧ Advanced i cr s t := by
  obtain ⟨t, ht, ha, hx, hy, hsp, hflags, hrest⟩ := completes_of_addToA (~~~m) hexec hwf hadmitted
  rw [add8_not_carry, add8_not_overflow] at hflags
  exact ⟨t, ht, ⟨ha ▸ add8_not_r_toNat .., hx, hy, hsp, hflags⟩, hrest⟩

/-- Settles O15: official SBC and 0xEB add the complement of their operand to A. -/
theorem subtractWithBorrow : Obligations.SubtractWithBorrow := by
  refine ⟨fun o s => ?_, fun b s hunofficial => ?_⟩
  · exact completes_of_addToA_not (operandValue o.toRead s) rfl rfl (admitted_of_official (by cases o <;> rfl))
  · exact completes_of_addToA_not b rfl rfl (admitted_of_unofficial rfl hunofficial)

end Sys2Proof.Machine
end

section
/-! PROOFS. The compares, the logic instructions and BIT (42_arith_logic.md R152 to R159): what they write is A and flags alone. -/

namespace Sys2Proof.Machine

/-! ## Compares -/

/-- `Compare(r, m)` in the terms of the statements (R152): the difference is 0 exactly for equal bytes. -/
theorem compared_compareFlags (r m : Byte) (s : State) : Compared r m s (compareFlags r m s) := by
  have hzero : (r - m == 0) = decide (r = m) := by
    rw [Bool.eq_iff_iff, beq_iff_eq, decide_eq_true_iff, sub_eq_zero]
  have hdiff : (r - m).toNat = (256 + r.toNat - m.toNat) % 256 := by
    have hm := m.isLt
    rw [BitVec.toNat_sub]
    omega
  intro f
  rw [State.flag_compareFlags, msb_eq_decide, hdiff, hzero]
  cases f <;> rfl

/-- An admitted instruction that compares a register with its operand and writes nothing but flags. -/
theorem completes_of_compareFlags {i : Instr} {s : State} {o : ReadOperand} (register : State → Byte)
    (hexec : exec i s = performRead i o (fun m s => compareFlags (register s) m s) s) (hwf : i.wellFormed = true)
    (hadmitted : admitted s i.opcode = true) :
    Completes i s fun t =>
      Compared (register s) (operandValue o s) s t ∧ SameRegisters s t ∧ SameMemory s t ∧ SameSurroundings s t ∧
      Advanced i (operandCrossed o s) s t := by
  obtain ⟨t, ht, ha, hx, hy, hsp, hflags, hrest⟩ :=
    completes_of_eq_withRegistersOf (fun s => compareFlags (register s) (operandValue o s) s) hexec hwf hadmitted rfl
      (compared_compareFlags (register s) (operandValue o s) s)
  exact ⟨t, ht, hflags, ⟨ha, hx, hy, hsp⟩, hrest⟩

/-- Settles O16: the three compares differ in their register and their forms alone. -/
theorem compareInstructions : Obligations.CompareInstructions := by
  intro s
  refine ⟨fun o => ?_, fun o => ?_, fun o => ?_⟩
  · exact completes_of_compareFlags State.a rfl rfl (admitted_of_official (by cases o <;> rfl))
  · exact completes_of_compareFlags State.x rfl rfl (admitted_of_official (by cases o <;> rfl))
  · exact completes_of_compareFlags State.y rfl rfl (admitted_of_official (by cases o <;> rfl))

/-! ## Logic -/

/-- Settles O17: each writes A and sets N and Z by it, and the word operation is the operation on every bit. -/
theorem logicInstructions : Obligations.LogicInstructions := by
  intro o s m done
  have hdone : ∀ {i : Instr} {op : Bool → Bool → Bool} (v : Byte),
      exec i s = perform i (operandCrossed o.toRead s) (setAResult v) s → i.wellFormed = true →
      (entry i.opcode).tier = .official → (∀ k < 8, v.getLsbD k = op (s.a.getLsbD k) (m.getLsbD k)) → done i op := by
    intro i op v hexec hwf htier hbits
    obtain ⟨t, ht, ha, hrest⟩ :=
      completes_of_eq_withRegistersOf (setAResult v) hexec hwf (admitted_of_official htier) rfl (flagsAfter_nzOf rfl)
    obtain rfl : t.a = v := ha
    exact ⟨t, ht, hbits, hrest⟩
  refine ⟨?_, ?_, ?_⟩
  · exact hdone (s.a &&& m) rfl rfl (by cases o <;> rfl) fun _ _ => BitVec.getLsbD_and
  · exact hdone (s.a ||| m) rfl rfl (by cases o <;> rfl) fun _ _ => BitVec.getLsbD_or
  · exact hdone (s.a ^^^ m) rfl rfl (by cases o <;> rfl) fun _ _ => BitVec.getLsbD_xor

/-! ## BIT -/

/-- `A & M` is 0 exactly when no bit is 1 in both (R159). -/
theorem and_beq_zero (a m : Byte) :
    (a &&& m == 0) = decide (∀ k : Fin 8, ¬ (a.getLsbD k = true ∧ m.getLsbD k = true)) := by
  rw [Bool.eq_iff_iff, beq_iff_eq, decide_eq_true_iff, BitVec.eq_of_getLsbD_eq_iff]
  simp only [Fin.forall_iff, BitVec.getLsbD_and, BitVec.ofNat_eq_ofNat, BitVec.getLsbD_zero, ← Bool.and_eq_true,
    Bool.not_eq_true]

/-- Settles O18: BIT writes three flags by its operand, and neither form crosses a page. -/
theorem bitTest : Obligations.BitTest := by
  intro o s m
  have hcrossed : crossed o.toMem s = false := by cases o <;> rfl
  obtain ⟨t, ht, ha, hx, hy, hsp, hflags, hmemory, hsurroundings, hadvanced⟩ :=
    completes_of_eq_withRegistersOf (i := .bit o)
      (flags := [(.n, m.getLsbD 7), (.v, m.getLsbD 6), (.z, s.a &&& m == 0)])
      (fun s => ((s.setFlag .z (s.a &&& m == 0)).setFlag .n (m.getLsbD 7)).setFlag .v (m.getLsbD 6)) rfl rfl
      (admitted_of_official (by cases o <;> rfl)) rfl (by intro f; simp only [State.flag_setFlag]; cases f <;> rfl)
  rw [and_beq_zero] at hflags
  exact ⟨t, ht, hflags, ⟨ha, hx, hy, hsp⟩, hmemory, hsurroundings, hcrossed ▸ hadvanced⟩

end Sys2Proof.Machine
end

section
/-! PROOFS. Increment and decrement (42_arith_logic.md R160 to R165), by what a read-modify-write instruction completes in
(20_memory.md R75). -/

namespace Sys2Proof.Machine

/-! ## Read-modify-write -/

/-- Where the entry has no penalty, a page crossing costs nothing (30_encoding.md R117). -/
theorem advanced_of_pageCross_eq_false {i : Instr} {cr : Bool} {s t : State} (hpenalty : (entry i.opcode).pageCross = false)
    (h : Advanced i cr s t) : Advanced i false s t := by
  simpa [Advanced, hpenalty] using h

/-- An admitted instruction that stores a byte and then writes registers and flags alone, in an entry without a penalty. -/
theorem completes_of_modify {i : Instr} {s : State} {cr : Bool} {ea : Addr} {r : Byte} (after : State → State)
    {flags : List (Flag × Bool)} (hexec : exec i s = perform i cr (fun s => after (writeByte s ea r)) s)
    (hwf : i.wellFormed = true) (hadmitted : admitted s i.opcode = true) (hpenalty : (entry i.opcode).pageCross = false)
    (hframe : ∀ u, after u = u.withRegistersOf (after u)) (hflags : FlagsAfter s (after (writeByte s ea r)) flags) :
    Completes i s fun t =>
      Stored ea r s t ∧ FlagsAfter s t flags ∧ t.a = (after (writeByte s ea r)).a ∧ t.x = (after (writeByte s ea r)).x ∧
      t.y = (after (writeByte s ea r)).y ∧ t.sp = (after (writeByte s ea r)).sp ∧ SameSurroundings s t ∧
      Advanced i false s t := by
  have hstored : Stored ea r s (after (writeByte s ea r)) := by
    rw [hframe]
    exact stored_writeByte s ea r
  have hsurroundings : SameSurroundings s (after (writeByte s ea r)) :=
    (writeByte_sameSurroundings s ea r).trans (sameSurroundings_of_eq_withRegistersOf (hframe _))
  have hcyc : (after (writeByte s ea r)).cyc = s.cyc := (cyc_of_eq_withRegistersOf (hframe _)).trans (writeByte_cyc ..)
  exact ⟨_, hexec.trans (perform_of_admitted hadmitted), hstored, hflags, rfl, rfl, rfl, rfl, hsurroundings,
    advanced_of_pageCross_eq_false hpenalty (advanced_of_cyc_eq hwf hcyc)⟩

/-! ## INC, DEC and the register forms -/

/-- The byte after and the byte before as the numbers the spec gives, modulo 256 (R160, R161). -/
theorem ofNat_succ_eq_add_one (v : Byte) : BitVec.ofNat 8 ((v.toNat + 1) % 256) = v + 1 :=
  BitVec.eq_of_toNat_eq (by simp [BitVec.toNat_add])

theorem ofNat_pred_eq_sub_one (v : Byte) : BitVec.ofNat 8 ((v.toNat + 255) % 256) = v - 1 :=
  BitVec.eq_of_toNat_eq (by simp [BitVec.toNat_sub, Nat.add_comm])

/-- An admitted instruction that stores a byte made of the one at its address and sets N and Z by it. -/
theorem completes_of_modifyNZ (i : Instr) {s : State} {m : MemMode} (f : Byte → Byte)
    (hexec : exec i s = performModify i m (fun v _ => f v) (fun _ r s => s.setNZ r) s) (hwf : i.wellFormed = true)
    (hadmitted : admitted s i.opcode = true) (hpenalty : (entry i.opcode).pageCross = false) :
    Completes i s fun t =>
      Stored (effAddr m s) (f (readByte s (effAddr m s))) s t ∧ FlagsAfter s t (nzOf (f (readByte s (effAddr m s)))) ∧
      SameRegisters s t ∧ SameSurroundings s t ∧ Advanced i false s t := by
  have hp := writeByte_p s (effAddr m s) (f (readByte s (effAddr m s)))
  obtain ⟨t, ht, hstored, hflags, ha, hx, hy, hsp, hrest⟩ :=
    completes_of_modify (fun u => u.setNZ (f (readByte s (effAddr m s)))) hexec hwf hadmitted hpenalty (fun _ => rfl)
      (flagsAfter_nzOf (congrArg (setNZ · _) hp))
  exact ⟨t, ht, hstored, hflags, by simp [SameRegisters, ha, hx, hy, hsp], hrest⟩

/-- Settles O23: INC and DEC store the byte after or before, the register forms write it to X or Y, and all set N and Z by it. -/
theorem incrementDecrement : Obligations.IncrementDecrement := by
  intro s up down cell reg
  have hup : up = (· + 1) := funext ofNat_succ_eq_add_one
  have hdown : down = (· - 1) := funext ofNat_pred_eq_sub_one
  have hreg : ∀ {i : Instr} (effect : State → State) {r : Byte}, exec i s = perform i false effect s →
      i.wellFormed = true → (entry i.opcode).tier = .official → effect s = s.withRegistersOf (effect s) →
      (effect s).p = setNZ s.p r → (effect s).a = s.a → (effect s).sp = s.sp → reg i (effect s).x (effect s).y r := by
    intro i effect r hexec hwf htier hframe hp ha hsp
    obtain ⟨t, ht, ha', hx, hy, hsp', hrest⟩ :=
      completes_of_eq_withRegistersOf effect hexec hwf (admitted_of_official htier) hframe (flagsAfter_nzOf hp)
    exact ⟨t, ht, hx, hy, ha'.trans ha, hsp'.trans hsp, hrest⟩
  rw [hup, hdown]
  refine ⟨fun o => ?_, fun o => ?_, ?_, ?_, ?_, ?_⟩
  · exact completes_of_modifyNZ (.inc o) (· + 1) rfl rfl (admitted_of_official (by cases o <;> rfl)) (by cases o <;> rfl)
  · exact completes_of_modifyNZ (.dec o) (· - 1) rfl rfl (admitted_of_official (by cases o <;> rfl)) (by cases o <;> rfl)
  · exact hreg (fun s => (s.setX (s.x + 1)).setNZ (s.x + 1)) rfl rfl rfl rfl rfl rfl rfl
  · exact hreg (fun s => (s.setY (s.y + 1)).setNZ (s.y + 1)) rfl rfl rfl rfl rfl rfl rfl
  · exact hreg (fun s => (s.setX (s.x - 1)).setNZ (s.x - 1)) rfl rfl rfl rfl rfl rfl rfl
  · exact hreg (fun s => (s.setY (s.y - 1)).setNZ (s.y - 1)) rfl rfl rfl rfl rfl rfl rfl

end Sys2Proof.Machine
end

section
/-! PROOFS. Shifts and rotates (43_shift_rotate.md R167 to R170): what each makes of a byte and P.C, what performShift completes
in, and the nine-bit word a rotate of the accumulator turns. -/

namespace Sys2Proof.Machine

/-! ## One byte and P.C -/

section
variable (v : Byte) (c : Bool)

theorem rotateLeft_r_toNat : (rotateLeft v c).r.toNat = (2 * v.toNat + c.toNat) % 256 := by revert v c; decide

theorem rotateLeft_carry : (rotateLeft v c).carry = decide (128 ≤ v.toNat) := msb_eq_decide v

theorem rotateRight_r_toNat : (rotateRight v c).r.toNat = v.toNat / 2 + 128 * c.toNat := by revert v c; decide

theorem rotateRight_carry : (rotateRight v c).carry = decide (v.toNat % 2 = 1) := Nat.testBit_zero v.toNat

/-- ASL is ROL of a clear carry, and LSR is ROR of one. -/
theorem shiftLeft_eq_rotateLeft : shiftLeft v = rotateLeft v false := by
  simp [shiftLeft, rotateLeft, bitByte]

theorem shiftRight_eq_rotateRight : shiftRight v = rotateRight v false := by
  simp [shiftRight, rotateRight, bitByte]

theorem shiftLeft_r_toNat : (shiftLeft v).r.toNat = 2 * v.toNat % 256 := by
  rw [shiftLeft_eq_rotateLeft, rotateLeft_r_toNat, Bool.toNat_false, Nat.add_zero]

theorem shiftLeft_carry : (shiftLeft v).carry = decide (128 ≤ v.toNat) := msb_eq_decide v

theorem shiftRight_r_toNat : (shiftRight v).r.toNat = v.toNat / 2 := by
  rw [shiftRight_eq_rotateRight, rotateRight_r_toNat, Bool.toNat_false, Nat.mul_zero, Nat.add_zero]

theorem shiftRight_carry : (shiftRight v).carry = decide (v.toNat % 2 = 1) := Nat.testBit_zero v.toNat

end

/-! ## The accumulator form and the memory forms -/

/-- C, N and Z as a shift writes them (R167). -/
theorem flagsAfter_carry_nzOf {s t : State} {on : Bool} {v : Byte} (hp : t.p = setNZ (setFlag s.p .c on) v) :
    FlagsAfter s t ((.c, on) :: nzOf v) := by
  intro f
  rw [State.flag, hp, getFlag_setNZ, getFlag_setFlag, msb_eq_decide, eq_zero_eq_decide]
  cases f <;> rfl

section
variable {i : Instr} {s : State} {f : Byte → Bool → ShiftResult}

/-- The accumulator form of an admitted shift or rotate writes A and flags alone (R99). -/
theorem completes_of_performShift_acc (hexec : exec i s = performShift i .acc f s) (hwf : i.wellFormed = true)
    (hadmitted : admitted s i.opcode = true) :
    Completes i s fun t =>
      t.a = (f s.a (s.flag .c)).r ∧ t.x = s.x ∧ t.y = s.y ∧ t.sp = s.sp ∧
      FlagsAfter s t ((.c, (f s.a (s.flag .c)).carry) :: nzOf t.a) ∧ SameMemory s t ∧ SameSurroundings s t ∧
      Advanced i false s t := by
  obtain ⟨t, ht, ha, hx, hy, hsp, hflags, hrest⟩ :=
    completes_of_eq_withRegistersOf
      (fun s => ((s.setA (f s.a (s.flag .c)).r).setFlag .c (f s.a (s.flag .c)).carry).setNZ (f s.a (s.flag .c)).r)
      hexec hwf hadmitted rfl (flagsAfter_carry_nzOf rfl)
  exact ⟨t, ht, ha, hx, hy, hsp, ha ▸ hflags, hrest⟩

/-- A memory form of an admitted shift or rotate stores to the byte it read (20_memory.md R75), in an entry without a penalty. -/
theorem completes_of_performShift_mem {o : ShiftOperand} {m : MemMode} (hmem : o.toMem = some m)
    (hexec : exec i s = performShift i o f s) (hwf : i.wellFormed = true) (hadmitted : admitted s i.opcode = true)
    (hpenalty : (entry i.opcode).pageCross = false) :
    let result := f (readByte s (effAddr m s)) (s.flag .c)
    Completes i s fun t =>
      Stored (effAddr m s) result.r s t ∧ FlagsAfter s t ((.c, result.carry) :: nzOf result.r) ∧ SameRegisters s t ∧
      SameSurroundings s t ∧ Advanced i false s t := by
  intro result
  have hmodify : exec i s = performModify i m (fun v s => (f v (s.flag .c)).r)
      (fun v r s => (s.setFlag .c (f v (s.flag .c)).carry).setNZ r) s := by
    rw [hexec, performShift, hmem]
  obtain ⟨t, ht, hstored, hflags, ha, hx, hy, hsp, hrest⟩ :=
    completes_of_modify (fun u => (u.setFlag .c (f (readByte s (effAddr m s)) (u.flag .c)).carry).setNZ result.r) hmodify hwf
      hadmitted hpenalty (fun _ => rfl)
      (flagsAfter_carry_nzOf (on := result.carry) (v := result.r) (by simp [result]))
  exact ⟨t, ht, hstored, hflags, by simp [SameRegisters, ha, hx, hy, hsp], hrest⟩

end

/-- Settles O24: the accumulator form stores the result to A, the memory forms to the byte they read, and the result and the bit
moved out are the numbers of R167 to R170. -/
theorem shiftsAndRotates : Obligations.ShiftsAndRotates := by
  intro s c done
  have hdone : ∀ (i : ShiftOperand → Instr) {r : Nat → Nat} {out : Nat → Bool} (f : Byte → Bool → ShiftResult),
      (∀ o, exec (i o) s = performShift (i o) o f s) → (∀ o, (i o).wellFormed = true) →
      (∀ o, (entry (i o).opcode).tier = .official ∧ (entry (i o).opcode).pageCross = false) →
      (∀ v, (f v (s.flag .c)).r.toNat = r v.toNat) → (∀ v, (f v (s.flag .c)).carry = out v.toNat) → done i r out := by
    intro i r out f hexec hwf hentry hr hout
    have hadmitted : ∀ o, admitted s (i o).opcode = true := fun o => admitted_of_official (hentry o).1
    refine ⟨?_, fun o m hmem => ?_⟩
    · obtain ⟨t, ht, ha, hrest⟩ := completes_of_performShift_acc (hexec .acc) (hwf .acc) (hadmitted .acc)
      exact ⟨t, ht, ha ▸ hr s.a, hout s.a ▸ hrest⟩
    · have hbyte : ∀ v : Byte, BitVec.ofNat 8 (r v.toNat) = (f v (s.flag .c)).r := fun v => by
        rw [← hr, BitVec.ofNat_toNat, BitVec.setWidth_eq]
      simp only [hbyte, ← hout]
      exact completes_of_performShift_mem hmem (hexec o) (hwf o) (hadmitted o) (hentry o).2
  -- Opaque from here on, so that `hdone` takes `r` and `out` from the goal.
  clear_value done
  refine ⟨?_, ?_, ?_, ?_⟩
  · exact hdone .asl (fun v _ => shiftLeft v) (fun _ => rfl) (fun _ => rfl) (by rintro ⟨⟩ <;> exact ⟨rfl, rfl⟩)
      shiftLeft_r_toNat shiftLeft_carry
  · exact hdone .lsr (fun v _ => shiftRight v) (fun _ => rfl) (fun _ => rfl) (by rintro ⟨⟩ <;> exact ⟨rfl, rfl⟩)
      shiftRight_r_toNat shiftRight_carry
  · exact hdone .rol rotateLeft (fun _ => rfl) (fun _ => rfl) (by rintro ⟨⟩ <;> exact ⟨rfl, rfl⟩)
      (rotateLeft_r_toNat · _) (rotateLeft_carry · _)
  · exact hdone .ror rotateRight (fun _ => rfl) (fun _ => rfl) (by rintro ⟨⟩ <;> exact ⟨rfl, rfl⟩)
      (rotateRight_r_toNat · _) (rotateRight_carry · _)

/-! ## The nine-bit word -/

/-- The word of P.C and A, C on top, that ROL and ROR turn by one bit (R169, R170). -/
def State.carryWord (s : State) : BitVec 9 := BitVec.cons (s.flag .c) s.a

theorem eq_of_carryWord_eq {s t : State} (h : t.carryWord = s.carryWord) : t.a = s.a ∧ t.flag .c = s.flag .c := by
  have ha : t.carryWord.setWidth 8 = s.carryWord.setWidth 8 := congrArg (BitVec.setWidth 8) h
  have hc : t.carryWord.msb = s.carryWord.msb := congrArg BitVec.msb h
  exact ⟨by simpa [State.carryWord] using ha, by simpa [State.carryWord] using hc⟩

/-- ROL turns the word left by one bit (R169). -/
theorem cons_rotateLeft (v : Byte) (c : Bool) :
    BitVec.cons (rotateLeft v c).carry (rotateLeft v c).r = (BitVec.cons c v).rotateLeft 1 := by
  revert v c; decide

/-- ROR turns the word right by one bit (R170). -/
theorem cons_rotateRight (v : Byte) (c : Bool) :
    BitVec.cons (rotateRight v c).carry (rotateRight v c).r = (BitVec.cons c v).rotateRight 1 := by
  revert v c; decide

/-- The accumulator form of an admitted rotate acts on the nine-bit word as `g`. -/
theorem completes_carryWord {i : Instr} {s : State} {f : Byte → Bool → ShiftResult} {g : BitVec 9 → BitVec 9}
    (hf : ∀ v c, BitVec.cons (f v c).carry (f v c).r = g (BitVec.cons c v))
    (hexec : exec i s = performShift i .acc f s) (hwf : i.wellFormed = true) (hadmitted : admitted s i.opcode = true) :
    Completes i s fun t => t.carryWord = g s.carryWord := by
  obtain ⟨t, ht, ha, -, -, -, hflags, -⟩ := completes_of_performShift_acc hexec hwf hadmitted
  have hc : t.flag .c = (f s.a (s.flag .c)).carry := hflags .c
  exact ⟨t, ht, by simp only [State.carryWord, ha, hc, hf]⟩

/-- `n` runs of an instruction that acts on the nine-bit word by `g`. -/
theorem execTimes_carryWord {i : Instr} {g : BitVec 9 → BitVec 9}
    (h : ∀ s, Completes i s fun t => t.carryWord = g s.carryWord) (n : Nat) (s : State) :
    ∃ t, ExecTimes i n s t ∧ t.carryWord = g^[n] s.carryWord := by
  induction n generalizing s with
  | zero => exact ⟨s, rfl, rfl⟩
  | succ n ih =>
    obtain ⟨u, hu, hword⟩ := h s
    obtain ⟨t, ht, hiterate⟩ := ih u
    exact ⟨t, ⟨u, hu, ht⟩, by rw [hiterate, hword, Function.iterate_succ_apply]⟩

/-! ## Turning a nine-bit word -/

section
variable (x : BitVec 9)

theorem nineBit_rotateLeft_succ (n : Nat) : (x.rotateLeft n).rotateLeft 1 = x.rotateLeft (n + 1) := by
  ext i hi
  simp only [BitVec.getElem_rotateLeft]
  split_ifs <;> congr 1 <;> omega

theorem nineBit_rotateLeft_zero : x.rotateLeft 0 = x := by
  ext i hi
  simp [BitVec.getElem_rotateLeft]

theorem nineBit_iterate_rotateLeft (n : Nat) : (·.rotateLeft 1)^[n] x = x.rotateLeft n := by
  induction n with
  | zero => exact (nineBit_rotateLeft_zero x).symm
  | succ n ih => rw [Function.iterate_succ_apply', ih, nineBit_rotateLeft_succ]

theorem nineBit_rotateRight_rotateLeft : (x.rotateLeft 1).rotateRight 1 = x := by
  ext i hi
  simp only [BitVec.getElem_rotateRight, BitVec.getElem_rotateLeft]
  split_ifs <;> congr 1 <;> omega

theorem nineBit_iterate_rotateLeft_nine : (·.rotateLeft 1)^[9] x = x := by
  rw [nineBit_iterate_rotateLeft, ← BitVec.rotateLeft_mod_eq_rotateLeft, Nat.mod_self, nineBit_rotateLeft_zero]

/-- ROR's turn undoes ROL's, so nine of them undo nine. -/
theorem nineBit_iterate_rotateRight_nine : (·.rotateRight 1)^[9] x = x := by
  have hinverse : Function.LeftInverse (fun x : BitVec 9 => x.rotateRight 1) (·.rotateLeft 1) := nineBit_rotateRight_rotateLeft
  calc (·.rotateRight 1)^[9] x
      _ = (·.rotateRight 1)^[9] ((·.rotateLeft 1)^[9] x) := by rw [nineBit_iterate_rotateLeft_nine]
      _ = x := hinverse.iterate 9 x
end

/-! ## The statement on nine rotates -/

/-- Settles O25: ROL and ROR of the accumulator turn the nine-bit word by one bit, so nine of them give it back. -/
theorem nineRotatesRestore : Obligations.NineRotatesRestore := by
  intro s
  have hrestore : ∀ {i : Instr} {f : Byte → Bool → ShiftResult} {g : BitVec 9 → BitVec 9},
      (∀ s, exec i s = performShift i .acc f s) → i.wellFormed = true → (entry i.opcode).tier = .official →
      (∀ v c, BitVec.cons (f v c).carry (f v c).r = g (BitVec.cons c v)) → (∀ x, g^[9] x = x) →
      ∃ t, ExecTimes i 9 s t ∧ t.a = s.a ∧ t.flag .c = s.flag .c := by
    intro i f g hexec hwf htier hf hg
    obtain ⟨t, ht, hword⟩ :=
      execTimes_carryWord (fun s => completes_carryWord hf (hexec s) hwf (admitted_of_official htier)) 9 s
    exact ⟨t, ht, eq_of_carryWord_eq (hword.trans (hg _))⟩
  exact ⟨hrestore (fun _ => rfl) rfl rfl cons_rotateLeft nineBit_iterate_rotateLeft_nine,
    hrestore (fun _ => rfl) rfl rfl cons_rotateRight nineBit_iterate_rotateRight_nine⟩

end Sys2Proof.Machine
end

section
/-! PROOFS. What the pushes leave at the stack locations they reach, and the instructions and entries made of them (10_state.md R31 to
R34, 44_control_flow.md R172 to R174, R185, 60_exceptions.md R305, R309): JSR, BRK under Trap, RTS after JSR, and RTI after an
interrupt entry. -/

namespace Sys2Proof.Machine

/-! ## Reading the stack after pushes -/

/-- Page 1 lies within one copy of RAM, so two stack locations name one RAM byte only when they are one location (R33, 20_memory.md
R63). -/
theorem ramAlias_stackAddr_iff {sp sp' : Byte} : RamAlias (stackAddr sp) (stackAddr sp') ↔ sp = sp' := by
  have hsp := sp.isLt
  have hsp' := sp'.isLt
  rw [RamAlias, stackAddr_toNat, stackAddr_toNat, ← BitVec.toNat_inj]
  omega

section
variable (s : State) (v : Byte) (w ret vector : Addr) (brk : Bool)

@[simp] theorem pulled8_setRun (r : RunState) : pulled8 (s.setRun r) = pulled8 s := rfl
@[simp] theorem pulled8_addCycles (n : Nat) : pulled8 (s.addCycles n) = pulled8 s := rfl
@[simp] theorem pulled16_pull8_setRun (r : RunState) : pulled16 (pull8 (s.setRun r)) = pulled16 (pull8 s) := rfl
@[simp] theorem pulled16_pull8_addCycles (n : Nat) : pulled16 (pull8 (s.addCycles n)) = pulled16 (pull8 s) := rfl

theorem readByte_push8_stackAddr : readByte (push8 s v) (stackAddr s.sp) = v :=
  readByte_writeByte_of_alias (ramAlias_stackAddr_iff.2 rfl)

theorem readByte_push8_stackAddr_of_ne {sp : Byte} (h : s.sp ≠ sp) :
    readByte (push8 s v) (stackAddr sp) = readByte s (stackAddr sp) :=
  readByte_writeByte_of_not_alias (mt ramAlias_stackAddr_iff.1 h)

/-- `push16` leaves the high byte at the first location and the low byte below it (20_memory.md R69, R72). -/
theorem readByte_push16_high : readByte (push16 s w) (stackAddr s.sp) = hi8 w := by
  have hne : (push8 s (hi8 w)).sp ≠ s.sp := by simp
  rw [push16, readByte_push8_stackAddr_of_ne _ _ hne, readByte_push8_stackAddr]

theorem readByte_push16_low : readByte (push16 s w) (stackAddr (s.sp - 1#8)) = lo8 w := by
  have hsp : (push8 s (hi8 w)).sp = s.sp - 1#8 := push8_sp ..
  rw [push16, ← hsp, readByte_push8_stackAddr]

/-- Two pulls give back the word that was pushed. -/
theorem pulled16_push16 : pulled16 (push16 s w) = w := by
  simp [pulled16, pulled8, readByte_push16_high, readByte_push16_low]

/-! ## Taking an exception and returning from it -/

/-- Setting I and loading PC come after the three pushes and store nothing. -/
theorem readByte_takeException (b : Addr) :
    readByte (takeException ret brk vector s) b = readByte (push8 (push16 s ret) (pushImage s.p brk)) b := by
  rw [takeException_eq]
  rfl

theorem readByte_takeException_high : readByte (takeException ret brk vector s) (stackAddr s.sp) = hi8 ret := by
  have hne : (push16 s ret).sp ≠ s.sp := by simp [BitVec.sub_sub]
  rw [readByte_takeException, readByte_push8_stackAddr_of_ne _ _ hne, readByte_push16_high]

theorem readByte_takeException_low : readByte (takeException ret brk vector s) (stackAddr (s.sp - 1#8)) = lo8 ret := by
  have hne : (push16 s ret).sp ≠ s.sp - 1#8 := by simp
  rw [readByte_takeException, readByte_push8_stackAddr_of_ne _ _ hne, readByte_push16_low]

theorem readByte_takeException_image :
    readByte (takeException ret brk vector s) (stackAddr (s.sp - 2#8)) = pushImage s.p brk := by
  have hsp : (push16 s ret).sp = s.sp - 2#8 := by simp [BitVec.sub_sub]
  rw [readByte_takeException, ← hsp, readByte_push8_stackAddr]

/-- Taking an exception stores at its three stack locations alone. -/
theorem readByte_takeException_of_not_alias {b : Addr}
    (h : ∀ k < 3, ¬ RamAlias (stackAddr (s.sp - BitVec.ofNat 8 k)) b) :
    readByte (takeException ret brk vector s) b = readByte s b := by
  have hwrites : WritesOnly [.sp] [.i] ((List.range 3).map fun k => stackAddr (s.sp - BitVec.ofNat 8 k)) s
      (takeException ret brk vector s) :=
    takeException_writesOnly (by simp) (by simp) fun k hk => List.mem_map_of_mem (List.mem_range.2 hk)
  exact hwrites.memory b (by simpa using h)

/-- A vector outside RAM is read as if nothing had been pushed. -/
theorem takeException_pc_of_not_ram (h : 0x2000 ≤ vector.toNat) (h' : 0x2000 ≤ (vector + 1).toNat) :
    (takeException ret brk vector s).pc = readWord s vector := by
  have hread : ∀ {b : Addr}, 0x2000 ≤ b.toNat → readByte (push8 (push16 s ret) (pushImage s.p brk)) b = readByte s b := by
    intro b hb
    rw [← readByte_takeException s ret vector brk b]
    exact readByte_takeException_of_not_alias _ _ _ _ fun k _ ⟨_, hram, _⟩ => by omega
  rw [takeException_eq, State.setPc_pc, readWord, hread h, hread h', readWord]

/-- The pulls of a return find what taking the exception pushed: the image of P, then the return address. -/
theorem pulled8_takeException : pulled8 (takeException ret brk vector s) = pushImage s.p brk := by
  have hsp : (takeException ret brk vector s).sp + 1 = s.sp - 2#8 := by
    rw [takeException_sp, BitVec.sub_add_cancel, BitVec.sub_sub]
    rfl
  rw [pulled8, hsp, readByte_takeException_image]

theorem pulled16_pull8_takeException : pulled16 (pull8 (takeException ret brk vector s)) = ret := by
  simp [pulled16, pulled8, readByte_takeException_high, readByte_takeException_low]

end

/-- Pushing P and loading it back keeps six flags, clears B and sets bit 5 (10_state.md R45). -/
theorem flagsAfter_loadP_pushImage {s t : State} {brk : Bool} (hp : t.p = loadP (pushImage s.p brk)) :
    FlagsAfter s t [(.b, false), (.u, true)] := by
  intro f
  rw [State.flag, hp, getFlag_loadP]
  cases f <;> simp [getFlag_pushImage, State.flag]

/-! ## JSR -/

theorem exec_jsr (w : Addr) (s : State) :
    exec (.jsr w) s = .next (((push16 s (s.pc + 2)).setPc w).addCycles 6) := rfl

/-- Settles O27: the two pushes store the bytes of PC0 + 2 at their locations, and no other byte is stored. -/
theorem jumpToSubroutine : Obligations.JumpToSubroutine := by
  intro s w
  refine ⟨_, exec_jsr w s, ?_⟩
  extract_lets ret first second
  have hret : (s.pc + 2).toNat = ret := BitVec.toNat_add ..
  have hfirst : first = stackAddr s.sp := (stackAddr_eq_ofNat s.sp).symm
  have hsecond : second = stackAddr (s.sp - 1#8) := (stackAddr_sub s.sp 1 (by decide)).symm
  refine ⟨rfl, ?_, ?_, ?_, ?_, fun b hb hb' => ?_, ?_⟩
  · simp [BitVec.sub_sub]
  · simp
  · rw [hfirst, ← hret, ← hi8_toNat]
    exact congrArg BitVec.toNat (readByte_push16_high s (s.pc + 2))
  · rw [hsecond, ← hret, ← lo8_toNat]
    exact congrArg BitVec.toNat (readByte_push16_low s (s.pc + 2))
  · have hwrites : WritesOnly [.sp] [] [first, second] s (push16 s (s.pc + 2)) :=
      push16_writesOnly (by simp) (by simp [hfirst]) (by simp [hsecond])
    exact hwrites.memory b (by simp [hb, hb'])
  · simp [SameSurroundings]

/-- Settles O29: RTS pulls the word JSR pushed and adds 1 to it. -/
theorem callThenReturn : Obligations.CallThenReturn := by
  intro s w
  have hpulled : pulled16 (((push16 s (s.pc + 2)).setPc w).addCycles 6) = s.pc + 2 := pulled16_push16 s (s.pc + 2)
  refine ⟨_, exec_jsr w s, _, exec_rts _, ?_, ?_, ?_⟩
  · calc pulled16 _ + 1
      _ = s.pc + 2 + 1 := by rw [hpulled]
      _ = s.pc + 3 := BitVec.add_assoc ..
  · simp [SameRegisters]
  · simp

/-! ## BRK under Trap -/

theorem exec_brk_of_trap {s : State} (h : s.params.brkPolicy = .trap) :
    exec .brk s = .next ((takeException (s.pc + 2) true irqVector s).addCycles 7) := by
  simp only [exec, execBrk, h]
  rfl

/-- Settles O31: the three pushes store at their locations, the vector lies outside RAM, and no other byte is stored. -/
theorem breakTrapTakesException : Obligations.BreakTrapTakesException := by
  intro s htrap
  have hexec := exec_brk_of_trap htrap
  refine ⟨_, hexec, ?_⟩
  extract_lets ret slot
  have hret : (s.pc + 2).toNat = ret := BitVec.toNat_add ..
  have hslot : ∀ k ≤ 256, slot k = stackAddr (s.sp - BitVec.ofNat 8 k) := fun k hk => (stackAddr_sub s.sp k hk).symm
  have hpc : (takeException (s.pc + 2) true irqVector s).pc = readWord s irqVector :=
    takeException_pc_of_not_ram s (s.pc + 2) irqVector true (by decide) (by decide)
  refine ⟨?_, ?_, ?_, fun b hb0 hb1 hb2 => ?_, ?_, ?_, ?_, ?_, ?_⟩
  · rw [hslot 0 (by decide), ← hret, ← hi8_toNat]
    simpa using congrArg BitVec.toNat (readByte_takeException_high s (s.pc + 2) irqVector true)
  · rw [hslot 1 (by decide), ← hret, ← lo8_toNat]
    exact congrArg BitVec.toNat (readByte_takeException_low s (s.pc + 2) irqVector true)
  · rw [hslot 2 (by decide), ← pushImage_true]
    exact readByte_takeException_image s (s.pc + 2) irqVector true
  · refine readByte_takeException_of_not_alias s (s.pc + 2) irqVector true fun k hk => ?_
    rw [← hslot k (by omega)]
    interval_cases k <;> assumption
  · rw [State.addCycles_pc, hpc, readWord, word16_toNat]
    rfl
  · simp [BitVec.sub_sub]
  · intro f
    rw [State.flag_addCycles, State.flag_takeException]
    cases f <;> rfl
  · simp
  · simp [SameSurroundings]

/-! ## RTI after an interrupt entry -/

/-- Settles O44: RTI pulls the P and the PC the entry pushed. -/
theorem returnResumesInterruptedCode : Obligations.ReturnResumesInterruptedCode := by
  intro s vector
  have hpc : pulled16 (pull8 (enterInterrupt vector s)) = s.pc := by
    simp [enterInterrupt, pulled16_pull8_takeException]
  have hp : pulled8 (enterInterrupt vector s) = pushImage s.p false := by
    simp [enterInterrupt, pulled8_takeException]
  refine ⟨_, exec_rti _, hpc, ?_, flagsAfter_loadP_pushImage (congrArg loadP hp)⟩
  simp [SameRegisters]

end Sys2Proof.Machine
end

section
/-! PROOFS. The flag instructions and NOP (45_flags_nop.md R188 to R195), and the interrupt check after CLI (60_exceptions.md R303,
70_reset_and_hazards.md R351). -/

namespace Sys2Proof.Machine

/-! ## Instructions that write P alone -/

/-- A write of one flag, in the terms of the statements. -/
theorem flagsAfter_setFlag (s : State) (f : Flag) (on : Bool) : FlagsAfter s (s.setFlag f on) [(f, on)] := by
  intro g
  rw [State.flag_setFlag, lookup_flag_cons]
  split <;> rfl

/-- An admitted instruction whose effect writes flags alone. -/
theorem completes_of_eq_setP {i : Instr} {s : State} (effect : State → State) {flags : List (Flag × Bool)}
    (hexec : exec i s = perform i false effect s) (hwf : i.wellFormed = true) (hadmitted : admitted s i.opcode = true)
    (hframe : effect s = s.setP (effect s).p) (hflags : FlagsAfter s (effect s) flags) :
    Completes i s fun t =>
      FlagsAfter s t flags ∧ SameRegisters s t ∧ SameMemory s t ∧ SameSurroundings s t ∧ Advanced i false s t := by
  have hregisters : effect s = s.withRegistersOf (effect s) := by
    rw [hframe]
    rfl
  obtain ⟨t, ht, ha, hx, hy, hsp, hflags', hrest⟩ :=
    completes_of_eq_withRegistersOf effect hexec hwf hadmitted hregisters hflags
  rw [hframe] at ha hx hy hsp
  exact ⟨t, ht, hflags', ⟨ha, hx, hy, hsp⟩, hrest⟩

/-- Settles O33: each of the seven writes one flag and NOP nothing, and all eight opcodes are official. -/
theorem flagInstructions : Obligations.FlagInstructions := by
  intro s done
  have hwrites : ∀ {i : Instr} (f : Flag) (on : Bool), exec i s = perform i false (fun s => s.setFlag f on) s →
      i.wellFormed = true → (entry i.opcode).tier = .official → done i [(f, on)] :=
    fun f on hexec hwf htier =>
      completes_of_eq_setP (fun s => s.setFlag f on) hexec hwf (admitted_of_official htier) rfl (flagsAfter_setFlag s f on)
  refine ⟨?clc, ?sec, ?cli, ?sei, ?cld, ?sed, ?clv, ?nop⟩
  case clc => exact hwrites .c false rfl rfl rfl
  case sec => exact hwrites .c true rfl rfl rfl
  case cli => exact hwrites .i false rfl rfl rfl
  case sei => exact hwrites .i true rfl rfl rfl
  case cld => exact hwrites .d false rfl rfl rfl
  case sed => exact hwrites .d true rfl rfl rfl
  case clv => exact hwrites .v false rfl rfl rfl
  case nop => exact completes_of_eq_setP id rfl rfl (admitted_of_official rfl) rfl fun _ => rfl

/-! ## The interrupt check after CLI -/

/-- With no NMI pending, an unmasked IRQ is entered (R303). -/
theorem interruptCheck_of_unmasked_irq {s : State} (hnmi : s.nmiPending = false) (hirq : s.irqLevel = true)
    (hmask : s.flag .i = false) : interruptCheck s = enterInterrupt irqVector s := by
  obtain ⟨hnmi', -⟩ | ⟨-, -, -, heq⟩ | ⟨-, hirq' | hmask', -⟩ := interruptCheck_cases s
  · simp [hnmi] at hnmi'
  · exact heq
  · simp [hirq] at hirq'
  · simp [hmask] at hmask'

/-- Settles O45: CLI clears I and keeps both interrupt inputs, so the check finds an unmasked IRQ. -/
theorem clearedMaskTakesEffectAtOnce : Obligations.ClearedMaskTakesEffectAtOnce := by
  intro s hirq hnmi
  obtain ⟨-, -, ⟨t, hexec, hflags, -, -, hsurroundings, -⟩, -⟩ := flagInstructions s
  obtain ⟨-, -, hnmi', hirq', -⟩ := hsurroundings
  have hmask : t.flag .i = false := hflags .i
  exact ⟨t, hexec, interruptCheck_of_unmasked_irq (hnmi'.trans hnmi) (hirq'.trans hirq) hmask⟩

end Sys2Proof.Machine
end

section
/-! PROOFS. The unofficial instructions that store nothing (46_unofficial.md R197, R198, R207 to R210): the NOPs in every form, LAX
and the four immediate instructions. -/

namespace Sys2Proof.Machine

/-! ## NOP -/

/-- The row of every unofficial NOP of a form in the opcode table (30_encoding.md R116). -/
def nopEntry : NopOperand → Entry
  | .imp => ⟨.nop, .implied, 1, some 2, false, .unofficial⟩
  | .imm _ => ⟨.nop, .immediate, 2, some 2, false, .unofficial⟩
  | .zp _ => ⟨.nop, .zeroPage, 2, some 3, false, .unofficial⟩
  | .zpX _ => ⟨.nop, .zeroPageX, 2, some 4, false, .unofficial⟩
  | .abs _ => ⟨.nop, .absolute, 3, some 4, false, .unofficial⟩
  | .absX _ => ⟨.nop, .absoluteX, 3, some 4, true, .unofficial⟩

theorem entry_of_mem_nopOpcodes {op : Byte} {o : NopOperand} (hop : op ∈ nopOpcodes o) : entry op = nopEntry o := by
  cases o <;> fin_cases hop <;> rfl

theorem nopEntry_tier (o : NopOperand) : (nopEntry o).tier = .unofficial := by cases o <;> rfl

/-- Whether the discarded read of an unofficial NOP crosses a page; the implied form reads nothing (R197). -/
def nopCrossed (o : NopOperand) (s : State) : Bool := (o.toRead.map (operandCrossed · s)).getD false

theorem exec_nopUnofficial (op : Byte) (o : NopOperand) (s : State) :
    exec (.nopUnofficial op o) s = perform (.nopUnofficial op o) (nopCrossed o s) id s := by
  cases o <;> rfl

/-- Whether indexing by X leaves the page of `w`, as numbers (30_encoding.md R105, R110). -/
theorem pagesDiffer_add_xIndex (w : Addr) (s : State) :
    pagesDiffer w (w + xIndex s) = !decide (w.toNat / 256 = (w.toNat + s.x.toNat) % 65536 / 256) := by
  rw [Bool.eq_iff_iff, pagesDiffer_iff, BitVec.toNat_add, xIndex_toNat]
  simp

/-- Settles O34: an unofficial NOP has no effect of its own, and the row of its form gives the length and the cycles. -/
theorem unofficialNops : Obligations.UnofficialNops := by
  intro op o s hwf hunofficial
  have hentry : entry op = nopEntry o := entry_of_mem_nopOpcodes (List.contains_iff_mem.1 hwf)
  have hadmitted : admitted s op = true := admitted_of_unofficial (hentry ▸ nopEntry_tier o) hunofficial
  refine ⟨_, (exec_nopUnofficial op o s).trans (perform_of_admitted hadmitted), ?pc, ?cyc, rfl, ?frame⟩
  case pc =>
    change nextPc op s = _
    rw [nextPc, hentry]
    cases o <;> rfl
  case cyc =>
    change s.cyc + cost op (nopCrossed o s) = _
    rw [cost, hentry]
    cases o with
    | imp | imm | zp | zpX | abs => rfl
    | absX w =>
      have hcrossed : nopCrossed (.absX w) s = _ := pagesDiffer_add_xIndex w s
      rw [hcrossed]
      by_cases hpage : w.toNat / 256 = (w.toNat + s.x.toNat) % 65536 / 256 <;> simp [hpage, nopEntry, bitNat]
  case frame => simp [SameRegisters, SameMemory, SameSurroundings]

/-! ## LAX -/

/-- Settles O35: LAX writes its operand to A and X and sets N and Z by it. -/
theorem loadAAndX : Obligations.LoadAAndX := by
  intro o s hunofficial m
  have hadmitted : admitted s (Instr.lax o).opcode = true := admitted_of_unofficial (by cases o <;> rfl) hunofficial
  exact completes_of_eq_withRegistersOf (fun s => ((s.setA m).setX m).setNZ m) rfl rfl hadmitted rfl (flagsAfter_nzOf rfl)

/-! ## ANC, ALR, ARR and SBX -/

theorem ancOpcodes_unofficial : ∀ op ∈ ancOpcodes, (entry op).tier = .unofficial := by decide

/-- C as ANC writes it, after N and Z (R207). -/
theorem flagsAfter_nzOf_carry {s t : State} {on : Bool} {v : Byte} (hp : t.p = setFlag (setNZ s.p v) .c on) :
    FlagsAfter s t ((.c, on) :: nzOf v) := by
  intro f
  rw [State.flag, hp, getFlag_setFlag, getFlag_setNZ, msb_eq_decide, eq_zero_eq_decide]
  cases f <;> rfl

/-- C and V as ARR writes them, after N and Z (R209). -/
theorem flagsAfter_nzOf_carry_overflow {s t : State} {c o : Bool} {v : Byte}
    (hp : t.p = setFlag (setFlag (setNZ s.p v) .c c) .v o) : FlagsAfter s t ([(.c, c), (.v, o)] ++ nzOf v) := by
  intro f
  rw [State.flag, hp, getFlag_setFlag, getFlag_setFlag, getFlag_setNZ, msb_eq_decide, eq_zero_eq_decide]
  cases f <;> rfl

/-- Settles O39: each writes one register and flags; the results are the shift, the rotate and the difference as numbers. -/
theorem unofficialImmediates : Obligations.UnofficialImmediates := by
  intro op b s hunofficial m ax rest
  refine ⟨?anc, ?alr, ?arr, ?sbx⟩
  case anc =>
    intro hwf
    have htier : (entry (Instr.anc op b).opcode).tier = .unofficial := ancOpcodes_unofficial op (List.contains_iff_mem.1 hwf)
    obtain ⟨t, ht, ha, hx, hy, hsp, hflags, hrest⟩ :=
      completes_of_eq_withRegistersOf (fun s => (setAResult (s.a &&& b) s).setFlag .c ((s.a &&& b).getLsbD 7)) rfl hwf
        (admitted_of_unofficial htier hunofficial) rfl (flagsAfter_nzOf_carry rfl)
    rw [msb_eq_decide] at hflags
    exact ⟨t, ht, congrArg BitVec.toNat ha, hx, ha ▸ hflags, hy, hsp, hrest⟩
  case alr =>
    obtain ⟨t, ht, ha, hx, hy, hsp, hflags, hrest⟩ :=
      completes_of_eq_withRegistersOf (i := .alr b)
        (fun s => setAResult (shiftRight (s.a &&& b)).r (s.setFlag .c (shiftRight (s.a &&& b)).carry)) rfl rfl
        (admitted_of_unofficial rfl hunofficial) rfl (flagsAfter_carry_nzOf rfl)
    rw [shiftRight_carry] at hflags
    exact ⟨t, ht, ha ▸ shiftRight_r_toNat _, hx, ha ▸ hflags, hy, hsp, hrest⟩
  case arr =>
    obtain ⟨t, ht, ha, hx, hy, hsp, hflags, hrest⟩ :=
      completes_of_eq_withRegistersOf (i := .arr b)
        (fun s =>
          let r := (rotateRight (s.a &&& b) (s.flag .c)).r
          ((setAResult r s).setFlag .c (r.getLsbD 6)).setFlag .v (r.getLsbD 6 ^^ r.getLsbD 5)) rfl rfl
        (admitted_of_unofficial rfl hunofficial) rfl (flagsAfter_nzOf_carry_overflow rfl)
    exact ⟨t, ht, ha ▸ rotateRight_r_toNat _ _, hx, ha ▸ hflags, hy, hsp, hrest⟩
  case sbx =>
    have hdiff : ((s.a &&& s.x) - b).toNat = (ax + 256 - b.toNat) % 256 := by
      have hb := b.isLt
      rw [BitVec.toNat_sub]
      omega
    obtain ⟨t, ht, ha, hx, hy, hsp, hflags, hrest⟩ :=
      completes_of_eq_withRegistersOf (i := .sbx b)
        (fun s => (compareFlags (s.a &&& s.x) b s).setX ((s.a &&& s.x) - b)) rfl rfl
        (admitted_of_unofficial rfl hunofficial) rfl (flagsAfter_carry_nzOf rfl)
    exact ⟨t, ht, (congrArg BitVec.toNat hx).trans hdiff, ha, hx ▸ hflags, hy, hsp, hrest⟩

end Sys2Proof.Machine
end

section
/-! PROOFS. The unofficial read-modify-write instructions (46_unofficial.md R201 to R206): each stores its cell and then acts on A and
flags alone (20_memory.md R75). -/

namespace Sys2Proof.Machine

/-- The flags after an effect on a state with the P of `s`. -/
theorem flagsAfter_of_p_eq {s u t : State} {flags : List (Flag × Bool)} (hp : u.p = s.p) (h : FlagsAfter u t flags) :
    FlagsAfter s t flags := by
  intro f
  rw [h f, State.flag_congr hp]

/-- A byte is the byte of the number it is. -/
theorem ofNat_eq_of_toNat_eq {v : Byte} {n : Nat} (h : v.toNat = n) : BitVec.ofNat 8 n = v := by
  rw [← h, BitVec.ofNat_toNat, BitVec.setWidth_eq]

/-! ## SLO, RLA and SRE -/

/-- An admitted instruction that shifts or rotates its cell by `f` and then combines the stored byte into A by `g`. -/
theorem completes_of_shiftThenCombine {i : Instr} {s : State} {m : MemMode} (f : Byte → Bool → ShiftResult)
    (g : Byte → Byte → Byte)
    (hexec : exec i s = performModify i m (fun v s => (f v (s.flag .c)).r)
      (fun v r s => setAResult (g s.a r) (s.setFlag .c (f v (s.flag .c)).carry)) s)
    (hwf : i.wellFormed = true) (hadmitted : admitted s i.opcode = true) (hpenalty : (entry i.opcode).pageCross = false) :
    let result := f (readByte s (effAddr m s)) (s.flag .c)
    Completes i s fun t =>
      Stored (effAddr m s) result.r s t ∧ t.a = g s.a result.r ∧ t.x = s.x ∧ t.y = s.y ∧ t.sp = s.sp ∧
      FlagsAfter s t ((.c, result.carry) :: nzOf t.a) ∧ SameSurroundings s t ∧ Advanced i false s t := by
  intro result
  obtain ⟨t, ht, hstored, hflags, ha, hx, hy, hsp, hrest⟩ :=
    completes_of_modify
      (fun u => setAResult (g u.a result.r) (u.setFlag .c (f (readByte s (effAddr m s)) (u.flag .c)).carry)) hexec hwf
      hadmitted hpenalty (fun _ => rfl)
      (flagsAfter_carry_nzOf (on := result.carry) (v := g s.a result.r) (by simp [result]))
  have ha' : t.a = g s.a result.r := by simpa using ha
  exact ⟨t, ht, hstored, ha', by simpa using hx, by simpa using hy, by simpa using hsp, ha' ▸ hflags, hrest⟩

/-- Settles O36: the stored byte and the bit moved out are the numbers of R167 to R169, and the word operation is the operation on
every bit. -/
theorem shiftAndCombine : Obligations.ShiftAndCombine := by
  intro o s hunofficial v done
  have hdone : ∀ {i : Instr} {r : Nat} {op : Bool → Bool → Bool} {out : Bool} (f : Byte → Bool → ShiftResult)
      (g : Byte → Byte → Byte),
      exec i s = performModify i o.toMem (fun v s => (f v (s.flag .c)).r)
        (fun v r s => setAResult (g s.a r) (s.setFlag .c (f v (s.flag .c)).carry)) s → i.wellFormed = true →
      (entry i.opcode).tier = .unofficial ∧ (entry i.opcode).pageCross = false →
      (f (readByte s (effAddr o.toMem s)) (s.flag .c)).r.toNat = r →
      (f (readByte s (effAddr o.toMem s)) (s.flag .c)).carry = out →
      (∀ a b k, (g a b).getLsbD k = op (a.getLsbD k) (b.getLsbD k)) → done i r op out := by
    intro i r op out f g hexec hwf hentry hr hout hbits
    obtain ⟨t, ht, hstored, ha, hx, hy, hsp, hflags, hrest⟩ :=
      completes_of_shiftThenCombine f g hexec hwf (admitted_of_unofficial hentry.1 hunofficial) hentry.2
    refine ⟨t, ht, ofNat_eq_of_toNat_eq hr ▸ hstored, fun k _ => ?_, hx, hy, hsp, hout ▸ hflags, hrest⟩
    rw [ha, hbits, ← hr]
    rfl
  -- Opaque from here on, so that `hdone` takes the numbers from the goal.
  clear_value done
  refine ⟨?_, ?_, ?_⟩
  · exact hdone (fun v _ => shiftLeft v) (· ||| ·) rfl rfl (by cases o <;> exact ⟨rfl, rfl⟩) (shiftLeft_r_toNat _)
      (shiftLeft_carry _) fun _ _ _ => BitVec.getLsbD_or
  · exact hdone rotateLeft (· &&& ·) rfl rfl (by cases o <;> exact ⟨rfl, rfl⟩) (rotateLeft_r_toNat _ _)
      (rotateLeft_carry _ _) fun _ _ _ => BitVec.getLsbD_and
  · exact hdone (fun v _ => shiftRight v) (· ^^^ ·) rfl rfl (by cases o <;> exact ⟨rfl, rfl⟩) (shiftRight_r_toNat _)
      (shiftRight_carry _) fun _ _ _ => BitVec.getLsbD_xor

/-! ## RRA and ISB -/

/-- The flags that adding `m` to A with the carry `c` writes, whoever put `c` in P (R204). -/
theorem flagsAfter_addToA_of_carry {s u : State} {c : Bool} (m : Byte) (h : FlagsAfter s u [(.c, c)]) :
    FlagsAfter s (addToA m u) (nzOf (addToA m u).a ++
      [(.c, (add8 u.a m c).carry), (.v, (add8 u.a m c).overflow)]) := by
  have hc : u.flag .c = c := h .c
  intro f
  rw [flagsAfter_addToA m u f, hc]
  cases f with
  | c | z | v | n => rfl
  | i | d | b | u => exact h _

/-- An admitted instruction that stores a byte, has the carry `c` in P after `carry`, and then adds `m` to A. -/
theorem completes_of_modify_addToA {i : Instr} {s : State} {cr c : Bool} {ea : Addr} {r : Byte} (m : Byte)
    (carry : State → State) (hexec : exec i s = perform i cr (fun s => addToA m (carry (writeByte s ea r))) s)
    (hwf : i.wellFormed = true) (hadmitted : admitted s i.opcode = true) (hpenalty : (entry i.opcode).pageCross = false)
    (hframe : ∀ u, carry u = u.setP (carry u).p) (hcarry : FlagsAfter s (carry (writeByte s ea r)) [(.c, c)]) :
    Completes i s fun t =>
      Stored ea r s t ∧ t.a = (add8 s.a m c).r ∧ t.x = s.x ∧ t.y = s.y ∧ t.sp = s.sp ∧
      FlagsAfter s t (nzOf t.a ++ [(.c, (add8 s.a m c).carry), (.v, (add8 s.a m c).overflow)]) ∧
      SameSurroundings s t ∧ Advanced i false s t := by
  have hregisters : ∀ u, addToA m (carry u) = u.withRegistersOf (addToA m (carry u)) := by
    intro u
    rw [hframe]
    rfl
  obtain ⟨t, ht, hstored, hflags, ha, hx, hy, hsp, hrest⟩ :=
    completes_of_modify (fun u => addToA m (carry u)) hexec hwf hadmitted hpenalty hregisters
      (flagsAfter_addToA_of_carry m hcarry)
  have hc : (carry (writeByte s ea r)).flag .c = c := hcarry .c
  rw [← ha] at hflags
  rw [addToA_a, hc] at ha
  rw [hframe] at ha hx hy hsp hflags
  exact ⟨t, ht, hstored, by simpa using ha, by simpa using hx, by simpa using hy, by simpa using hsp, by simpa using hflags,
    hrest⟩

/-- The carry out of a right rotate as a number (R170). -/
theorem rotateRight_carry_toNat (v : Byte) (c : Bool) : (rotateRight v c).carry.toNat = v.toNat % 2 := by
  rw [rotateRight_carry]
  obtain hv | hv := Nat.mod_two_eq_zero_or_one v.toNat <;> simp [hv]

/-- Settles O37: RRA adds its rotated cell with the bit moved out, ISB subtracts its incremented cell, and the adder is exact. -/
theorem rotateAddAndIncrementSubtract : Obligations.RotateAddAndIncrementSubtract := by
  intro o s hunofficial v c
  refine ⟨?rra, ?isb⟩
  case rra =>
    let result := rotateRight (readByte s (effAddr o.toMem s)) (s.flag .c)
    have hr : BitVec.ofNat 8 (v / 2 + 128 * c) = result.r := ofNat_eq_of_toNat_eq (rotateRight_r_toNat _ _)
    have hout : result.carry.toNat = v % 2 := rotateRight_carry_toNat _ _
    obtain ⟨t, ht, hstored, ha, hx, hy, hsp, hflags, hrest⟩ :=
      completes_of_modify_addToA (i := .rra o) (s := s) (c := result.carry) result.r
        (fun u => u.setFlag .c result.carry) rfl rfl (admitted_of_unofficial (by cases o <;> rfl) hunofficial)
        (by cases o <;> rfl) (fun _ => rfl) (flagsAfter_of_p_eq (writeByte_p ..) (flagsAfter_setFlag _ _ _))
    rw [add8_carry, add8_overflow, hout] at hflags
    rw [hr]
    exact ⟨t, ht, hstored, by rw [ha, add8_r_toNat, hout], hx, hy, hsp, hflags, hrest⟩
  case isb =>
    let r := readByte s (effAddr o.toMem s) + 1
    have hr : BitVec.ofNat 8 ((v + 1) % 256) = r := ofNat_succ_eq_add_one _
    obtain ⟨t, ht, hstored, ha, hx, hy, hsp, hflags, hrest⟩ :=
      completes_of_modify_addToA (i := .isb o) (s := s) (c := s.flag .c) (r := r) (~~~r) id rfl rfl
        (admitted_of_unofficial (by cases o <;> rfl) hunofficial) (by cases o <;> rfl) (fun _ => rfl)
        (by intro f; cases f <;> simp)
    rw [add8_not_carry, add8_not_overflow] at hflags
    rw [hr]
    exact ⟨t, ht, hstored, ⟨ha ▸ add8_not_r_toNat .., hx, hy, hsp, hflags⟩, hrest⟩

/-! ## DCP -/

/-- Settles O38: DCP stores the byte before and compares A with it. -/
theorem decrementCompare : Obligations.DecrementCompare := by
  intro o s hunofficial
  rw [ofNat_pred_eq_sub_one]
  obtain ⟨t, ht, hstored, hflags, ha, hx, hy, hsp, hrest⟩ :=
    completes_of_modify (i := .dcp o) (s := s) (ea := effAddr o.toMem s) (r := readByte s (effAddr o.toMem s) - 1)
      (fun u => compareFlags u.a (readByte s (effAddr o.toMem s) - 1) u) rfl rfl
      (admitted_of_unofficial (by cases o <;> rfl) hunofficial) (by cases o <;> rfl) (fun _ => rfl)
      (flagsAfter_of_p_eq (writeByte_p ..) (compared_compareFlags _ _ _))
  rw [writeByte_a] at hflags
  exact ⟨t, ht, hstored, hflags, by simp [SameRegisters, ha, hx, hy, hsp], hrest⟩

end Sys2Proof.Machine
end

section
/-! PROOFS. The step on an illegal opcode, the interrupt check and the interrupt entry (60_exceptions.md R301 to R305). -/

namespace Sys2Proof.Machine

/-! ## IllegalOpcode in a step -/

/-- The step decodes the opcode byte at PC, whatever operand bytes follow it (30_encoding.md R91). -/
theorem fetched_opcode (s : State) : (fetched s).opcode = readByte s s.pc := decodeBytes_opcode ..

theorem fetched_wellFormed (s : State) : (fetched s).wellFormed = true := by
  obtain ⟨-, -, hwf, -⟩ := decodeBytes_columns (readByte s s.pc) (readByte s (s.pc + 1)) (readByte s (s.pc + 2))
  exact hwf

/-- Settles O41: the fetched instruction raises IllegalOpcode, after which neither the hook nor the halt check runs. -/
theorem stepIllegalOpcodeIsPrecise : Obligations.StepIllegalOpcodeIsPrecise := by
  intro s hrun s0 op htier
  have hopcode : (fetched s0).opcode = op := fetched_opcode s0
  have hparams : s0.params = s.params := (interruptCheck_sameLaunch s).2.2.1
  rw [← hparams, ← hopcode] at htier
  obtain ⟨hhalts, -⟩ := illegalOpcodeHalts s0
  have hexec := hhalts (fetched s0) (fetched_wellFormed s0) htier
  have hnot : ¬ admitted s0 (fetched s0).opcode = true := by simp [not_admitted_iff.2 htier]
  rw [step_of_exec hrun hexec, afterExec, if_neg hnot, hopcode]

/-! ## The interrupt check -/

/-- Settles O43: one case of the check for each of NMI, unmasked IRQ and neither. -/
theorem interruptPriority : Obligations.InterruptPriority := by
  intro s
  obtain ⟨hnmi, hcheck⟩ | ⟨hnmi, hirq, hmask, hcheck⟩ | ⟨hnmi, hnone, hcheck⟩ := interruptCheck_cases s
  case inl =>
    exact ⟨fun _ => hcheck, by simp [hnmi], by simp [hnmi], by simp [hcheck], by simp [hcheck]⟩
  case inr.inl =>
    exact ⟨by simp [hnmi], fun _ _ _ => hcheck, by simp [hirq, hmask], by simp [hcheck, hnmi], by simp [hcheck]⟩
  case inr.inr =>
    refine ⟨by simp [hnmi], fun _ hirq hmask => ?_, fun _ _ => hcheck, by rw [hcheck, hnmi], by rw [hcheck]⟩
    simp [hirq, hmask] at hnone

/-! ## Interrupt entry -/

theorem pushImage_false (p : Byte) : pushImage p false = (p &&& 0xCF) ||| 0x20 := by
  simp [pushImage]

/-- Memory after the entry is memory after the exception it takes: RUN and CYC are no part of it. -/
theorem readByte_enterInterrupt (s : State) (vector b : Addr) :
    readByte (enterInterrupt vector s) b =
      readByte (takeException s.pc false vector (s.setRun .interruptServicing)) b := rfl

/-- Settles O42: the entry is an exception taken at the interrupted PC with B = 0, whose vector lies outside RAM. -/
theorem interruptEntry : Obligations.InterruptEntry := by
  intro s vector hvector t slot
  have hslot : ∀ k ≤ 256, slot k = stackAddr (s.sp - BitVec.ofNat 8 k) := fun k hk => (stackAddr_sub s.sp k hk).symm
  have hpc : t.pc = readWord s vector := by
    refine takeException_pc_of_not_ram (s.setRun .interruptServicing) s.pc vector false ?_ ?_
    all_goals obtain rfl | rfl := hvector <;> decide
  refine ⟨?_, ?_, ?_, fun b hb0 hb1 hb2 => ?_, ?_, ?_, ?_, ?_⟩
  · rw [readByte_enterInterrupt, hslot 0 (by decide), BitVec.sub_zero, ← hi8_toNat]
    exact congrArg BitVec.toNat (readByte_takeException_high ..)
  · rw [readByte_enterInterrupt, hslot 1 (by decide), ← lo8_toNat]
    exact congrArg BitVec.toNat (readByte_takeException_low ..)
  · rw [readByte_enterInterrupt, hslot 2 (by decide), ← pushImage_false]
    exact readByte_takeException_image ..
  · rw [readByte_enterInterrupt]
    refine readByte_takeException_of_not_alias _ _ _ _ fun k hk => ?_
    rw [State.setRun_sp, ← hslot k (by omega)]
    interval_cases k <;> assumption
  · rw [hpc, readWord, word16_toNat]
  · simp [t, BitVec.sub_sub]
  · intro f
    rw [State.flag_enterInterrupt]
    cases f <;> rfl
  · obtain ⟨u, hexec, hresumed, -⟩ := returnResumesInterruptedCode s vector
    exact ⟨enterInterrupt_cyc .., enterInterrupt_a .., enterInterrupt_x .., enterInterrupt_y .., by simp [t, SameSurroundings],
      u, hexec, hresumed⟩

end Sys2Proof.Machine
end

section
/-! PROOFS. The run of a single BRK from reset (70_reset_and_hazards.md R348). -/

namespace Sys2Proof.Machine

/-- A run ends with the step that leaves RUN other than Running (10_state.md R47, R48). -/
theorem runWithHook_succ_of_step_stops {s t : State} (hstep : step s = .next t) (hstops : t.run ≠ .running) (fuel : Nat) :
    runWithHook (fuel + 1) s = t := by
  have hstuck : step t = .fault (.notRunning t.run) := by simp [step, hstops]
  rw [runWithHook, hstep]
  cases fuel with
  | zero => rfl
  | succ n => simp [runWithHook, hstuck]

/-- Settles O59: reset leaves PC at the BRK with no interrupt requested, and the step that runs it halts. -/
theorem singleBreakFromReset : Obligations.SingleBreakFromReset := by
  intro prg ram params hook fuel hbrk hlow hhigh hpolicy s t
  have hprg : ∀ b : Addr, 0x8000 ≤ b.toNat → readByte (constructed prg .kib16 ram params) b = prg.get (b.toNat % 0x4000) :=
    fun _ hb => readByte_of_kib16 rfl hb
  have hpc : s.pc = 0x8000 := by
    have hvector : s.pc = word16 (prg.get 0x3FFD) (prg.get 0x3FFC) :=
      congrArg₂ word16 (hprg 0xFFFD (by decide)) (hprg 0xFFFC (by decide))
    rw [hvector, hhigh, hlow]
    rfl
  have hzero : readByte s s.pc = 0x00 := by
    rw [hpc]
    exact (hprg 0x8000 (by decide)).trans hbrk
  obtain ⟨-, -, hquiet, -⟩ := interruptPriority s
  obtain ⟨-, hhalts⟩ := breakHaltStopsRun s hpolicy
  obtain ⟨u, hstep, hrun, hreason, hpc', hcyc, hregisters, hp, -⟩ := hhalts rfl (hquiet rfl (.inl rfl)) hzero
  have ht : t = u := runWithHook_succ_of_step_stops hstep (by simp [hrun]) fuel
  rw [ht]
  rw [hpc] at hreason hpc'
  exact ⟨hstep, hrun, hreason, hpc', hcyc, hregisters, hp⟩

end Sys2Proof.Machine
end
